-- ==== Sys2Proof/Word.lean ====
section
/-! DEFINITION. The machine's words: a byte, a 16-bit word, a 20-bit physical address (00_scope.md R6). -/

namespace Sys2Proof

/-- 8 bits: every memory access moves one (20_memory.md R72). -/
abbrev Byte := BitVec 8

/-- 16 bits: a word register, a logical address, a 16-bit constant (00_scope.md R6). -/
abbrev Word := BitVec 16

/-- 20 bits: a physical memory address (20_memory.md R70). -/
abbrev PhysAddr := BitVec 20

end Sys2Proof
end

