-- ==== Sys2Proof/Machine/Bits.lean ====
section
/-! DEFINITION. Bit fields and extensions of 00_scope.md R8 to R10. -/

namespace Sys2Proof

/-- Bits 15:8 of a word (00_scope.md R10). -/
def hi (w : Word) : Byte := w.extractLsb' 8 8

/-- Bits 7:0 of a word (00_scope.md R10). -/
def lo (w : Word) : Byte := w.extractLsb' 0 8

/-- The word with the given high and low bytes, `h ++ l` (00_scope.md R10). -/
def pair (h l : Byte) : Word := h ++ l

/-- `sext_16` of a byte (00_scope.md R9): the displacements `d` and `e-2`. -/
def sext16 (d : Byte) : Word := d.signExtend 16

/-- `zext_16` of a byte (00_scope.md R9): the unsigned offset `n` of `(SP+n)`. -/
def zext16 (n : Byte) : Word := n.setWidth 16

end Sys2Proof
end

