-- ==== Sys2Proof/Config.lean ====
section
/-! DEFINITION. What the spec leaves to the chip or to its surroundings: the two I/O spaces, and the free values.
The free values are constants without a body, so no proof can see what they are. -/

namespace Sys2Proof

/-- The two I/O spaces an I/O latch can select (20_memory.md R70, R77). -/
inductive IoSpace where
  | internal  -- selected by IOI
  | external  -- selected by IOE
deriving DecidableEq, Repr

/-- The answer of the I/O oracle to its `n`-th unsupplied read, of address `a` in space `sp`: a free value
(20_memory.md R78, D6; log 8). -/
opaque Config.ioDraw (n : Nat) (sp : IoSpace) (a : Word) : Byte

/-- Where a logical address below 0xE000 lies when the opaque MMU state is not its launch value: a free value
("the identity unless MmuState says otherwise", 20_memory.md R74; log 7). -/
opaque Config.segmentMap (token : Nat) (a : Word) : PhysAddr

end Sys2Proof
end

