-- ==== Sys2Proof/Machine/State.lean ====
section
/-! DEFINITION. The machine's state as plain data: everything 10_state.md R30 names, the surroundings the spec makes
oracles, and the reasons a step can stop. -/

namespace Sys2Proof.Machine

/-- One bank of byte registers; State holds two (10_state.md R31, R33). -/
structure Bank where
  a : Byte
  f : Byte
  b : Byte
  c : Byte
  d : Byte
  e : Byte
  h : Byte
  l : Byte
deriving DecidableEq, Repr

/-- Physical memory: the bytes that have a value, addresses strictly rising and below 2^20 (20_memory.md R70). A byte
that is not listed has no value, so that a read of it stops (20_memory.md R80, D21; log 1). -/
abbrev Memory := List Host.Cell

/-- The canonical form of memory. -/
abbrev Memory.wf (m : Memory) : Prop :=
  m.Pairwise (fun x y => x.1 < y.1) ∧ ∀ x ∈ m, x.1 < 2 ^ 20

/-- What the MMU's own registers hold: opaque, 0 at launch, changed only by I/O writes that the model does not interpret
(20_memory.md R74, R78, 00_scope.md R7; log 7). -/
structure MmuState where
  token : Nat
deriving DecidableEq, Repr

/-- One byte access to an I/O space, as the output trace records it (20_memory.md R78). -/
inductive IoEvent where
  | read (sp : IoSpace) (a : Word) (v : Byte)
  | write (sp : IoSpace) (a : Word) (v : Byte)
deriving DecidableEq, Repr

/-- The priority of an interrupt request (60_exceptions.md R504). -/
inductive Priority where
  | p1 | p2 | p3
deriving DecidableEq, Repr

/-- A request the interrupt oracle presents: its priority, whether its vector lies in the external or the internal
table, and its offset there (60_exceptions.md R506, R511). -/
structure IrqRequest where
  prio     : Priority
  external : Bool
  off      : Byte
deriving DecidableEq, Repr

/-- The state. `main` and `alt` are A F B C D E H L and their primes; `altd`, `io`, `hold` and `iobug` are the latches
of 10_state.md R52 to R55. `mmuIn` is what the I/O oracle makes of the MMU state at the coming I/O writes, one entry for
each, `none` and the empty list leaving it as it is (20_memory.md R78, 00_scope.md R7; log 7). `ioIn` is the supplied
trace of I/O answers, `ioDraws` the model's own count of free I/O answers, `ioTrace` every I/O access in program order
(20_memory.md R78; log 8), and `irq` the answers the interrupt oracle will give at the coming boundaries, the empty list
meaning never a request (60_exceptions.md R506; log 10). -/
structure State where
  main    : Bank
  alt     : Bank
  ix      : Word
  iy      : Word
  sp      : Word
  pc      : Word
  xpc     : Byte
  ip      : Byte
  iir     : Byte
  eir     : Byte
  altd    : Bool
  io      : Option IoSpace
  hold    : Bool
  iobug   : Option IoSpace
  mem     : Memory
  mmu     : MmuState
  mmuIn   : List (Option MmuState)
  ioIn    : List Byte
  ioDraws : Nat
  ioTrace : List IoEvent
  irq     : List (Option IrqRequest)
deriving DecidableEq, Repr

/-- Why the machine stops with a fault. The spec has no synchronous exception (60_exceptions.md R500). -/
inductive Fault where
  /-- Raised by a read or a fetch of a physical byte that nothing has given a value (20_memory.md R80, D21; log 1).
  Safe: the hardware goes on with some byte. -/
  | unwrittenMemory (p : PhysAddr)
deriving DecidableEq, Repr

/-- Why the model gives a step no meaning. -/
inductive Refusal where
  /-- Raised by an arm of `exec` for an instruction that has no meaning yet. Safe. -/
  | notModelled (mnemonic : String)
  /-- Raised by `step` where no row of the opcode table matches the bytes at PC (30_encoding.md R128, D16; log 19).
  Safe: the spec gives such bytes no effect. -/
  | undefinedOpcode (bytes : List Byte)
  /-- Raised by IOI and IOE while the io latch is already set (45_prefix_block.md R435, D14; log 17). Safe: the spec
  gives that sequence no effect. -/
  | secondIoPrefix
  /-- Raised by LD SP,mn, LD SP,(mn), INC SP and DEC SP while the altd latch is set: SP has no alternate to write
  (45_prefix_block.md R439, 42_arith16.md R268, R271, D26; log 15). Safe: the spec refuses that sequence. -/
  | altdSp
deriving DecidableEq, Repr

/-- The outcome of a step of this machine. -/
abbrev Out := Host.Outcome State Fault Refusal

/-- A bank with every register 0: the model's value after reset (log 2). -/
def Bank.zero : Bank := { a := 0, f := 0, b := 0, c := 0, d := 0, e := 0, h := 0, l := 0 }

/-- The machine right after reset. PC, XPC, IP, IIR, EIR and the latches are the values that 10_state.md R57
recommends; the spec gives none for the other registers (log 2, 3, 4). Memory lists nothing: the launch supplies it. -/
def State.reset : State :=
  { main := Bank.zero, alt := Bank.zero, ix := 0, iy := 0, sp := 0, pc := 0, xpc := 0, ip := 0xFF, iir := 0, eir := 0,
    altd := false, io := none, hold := false, iobug := none, mem := [], mmu := { token := 0 }, mmuIn := [],
    ioIn := [], ioDraws := 0, ioTrace := [], irq := [] }

end Sys2Proof.Machine
end

