-- ==== Sys2Proof/Machine/Params.lean ====
section
/-! DEFINITION. The parameters of 00_scope.md R7, each at the value the model takes. -/

namespace Sys2Proof.Machine

/-- FlagLayout (10_state.md R43, default; log 5): the bit of F that holds S. -/
def flagSBit : Nat := 7

/-- FlagLayout: the bit of F that holds Z. -/
def flagZBit : Nat := 6

/-- FlagLayout: the bit of F that holds L/V. -/
def flagLVBit : Nat := 2

/-- FlagLayout: the bit of F that holds C. -/
def flagCBit : Nat := 0

/-- Translate (20_memory.md R74, default D5; log 6, 7): the window 0xE000..0xFFFF moves with XPC, the rest of the
logical space lies where the MMU state says, at its launch value at the same physical address. -/
def translate (a : Word) (xpc : Byte) (mmu : MmuState) : PhysAddr :=
  if 0xE000#16 ≤ a then a.setWidth 20 + xpc.setWidth 20 * 0x1000#20
  else if mmu.token = 0 then a.setWidth 20
  else Config.segmentMap mmu.token a

/-- The 20-bit address of an LDP: bits 19:16 are A[3:0] (20_memory.md R75). -/
def ldpAddr (a : Byte) (a16 : Word) : PhysAddr := a.extractLsb' 0 4 ++ a16

/-- LdpCarry (20_memory.md R75; log 21): the following 20-bit address, carrying into bits 19:16. -/
def ldpNext (p : PhysAddr) : PhysAddr := p + 1

/-- BlockZeroCount (45_prefix_block.md R441, R443; log 20): how many bytes LDIR and LDDR move. BC = 0 wraps: the count
is decremented before it is compared, so 65536 bytes are moved. -/
def blockCount (bc : Word) : Nat := if bc = 0 then 65536 else bc.toNat

/-- The address an I/O access presents: the low byte for internal I/O, all 16 bits for external I/O
(20_memory.md R77). -/
def ioAddr : IoSpace → Word → Word
  | .internal, a => zext16 (lo a)
  | .external, a => a

end Sys2Proof.Machine
end

