-- ==== Sys2Proof/Syntax.lean ====
section
/-! DEFINITION. The instruction set as syntax: one constructor for each row of spec/opcode_table.json, operands in the
order the spec's mnemonic writes them. A relative jump holds the byte stored in the instruction (`e-2` of
30_encoding.md R119). -/

namespace Sys2Proof

/-- Byte registers: the field `r` or `g` (30_encoding.md R108). -/
inductive Reg8 where
  | b | c | d | e | h | l | a
deriving DecidableEq, Repr

/-- Word registers of the field `ss` or `dd` (30_encoding.md R109). -/
inductive RegSs where
  | bc | de | hl | sp
deriving DecidableEq, Repr

/-- Word registers of the field `zz` of PUSH and POP (30_encoding.md R110). -/
inductive RegZz where
  | bc | de | hl | af
deriving DecidableEq, Repr

/-- Word registers of the field `xx` of ADD IX,xx (30_encoding.md R111). -/
inductive RegXx where
  | bc | de | ix | sp
deriving DecidableEq, Repr

/-- Word registers of the field `yy` of ADD IY,yy (30_encoding.md R112). -/
inductive RegYy where
  | bc | de | iy | sp
deriving DecidableEq, Repr

/-- Alternate word registers of the field `dd'` (30_encoding.md R113). -/
inductive RegAlt where
  | bc | de | hl
deriving DecidableEq, Repr

/-- Conditions of the 2-bit field `cc` of JR (30_encoding.md R115). -/
inductive Cc where
  | nz | z | nc | c
deriving DecidableEq, Repr

/-- Conditions of the 3-bit field `f` of JP and RET (30_encoding.md R115, 10_state.md R42). -/
inductive Cond where
  | nz | z | nc | c | lz | lo | p | m
deriving DecidableEq, Repr

/-- The instructions. The field `v` of RST is kept as its three bits; which of them exist is checked by
`Instr.wellFormed` (30_encoding.md R116). -/
inductive Instr where
  /-- `ADC A,(HL)`: R303. -/
  | adcAAtHl
  /-- `ADC A,(IX+d)`: R304. -/
  | adcAAtIxd (d : Byte)
  /-- `ADC A,(IY+d)`: R305. -/
  | adcAAtIyd (d : Byte)
  /-- `ADC A,n`: R306. -/
  | adcAN (n : Byte)
  /-- `ADC A,r`: R307. -/
  | adcAR (r : Reg8)
  /-- `ADD A,(HL)`: R308. -/
  | addAAtHl
  /-- `ADD A,(IX+d)`: R309. -/
  | addAAtIxd (d : Byte)
  /-- `ADD A,(IY+d)`: R310. -/
  | addAAtIyd (d : Byte)
  /-- `ADD A,n`: R311. -/
  | addAN (n : Byte)
  /-- `ADD A,r`: R312. -/
  | addAR (r : Reg8)
  /-- `AND (HL)`: R313. -/
  | andAtHl
  /-- `AND (IX+d)`: R314. -/
  | andAtIxd (d : Byte)
  /-- `AND (IY+d)`: R315. -/
  | andAtIyd (d : Byte)
  /-- `AND n`: R316. -/
  | andN (n : Byte)
  /-- `AND r`: R317. -/
  | andR (r : Reg8)
  /-- `CP (HL)`: R318. -/
  | cpAtHl
  /-- `CP (IX+d)`: R319. -/
  | cpAtIxd (d : Byte)
  /-- `CP (IY+d)`: R320. -/
  | cpAtIyd (d : Byte)
  /-- `CP n`: R321. -/
  | cpN (n : Byte)
  /-- `CP r`: R322. -/
  | cpR (r : Reg8)
  /-- `OR (HL)`: R323. -/
  | orAtHl
  /-- `OR (IX+d)`: R324. -/
  | orAtIxd (d : Byte)
  /-- `OR (IY+d)`: R325. -/
  | orAtIyd (d : Byte)
  /-- `OR n`: R326. -/
  | orN (n : Byte)
  /-- `OR r`: R327. -/
  | orR (r : Reg8)
  /-- `SBC A,(HL)`: R328. -/
  | sbcAAtHl
  /-- `SBC A,(IX+d)`: R329. -/
  | sbcAAtIxd (d : Byte)
  /-- `SBC A,(IY+d)`: R330. -/
  | sbcAAtIyd (d : Byte)
  /-- `SBC A,n`: R331. -/
  | sbcAN (n : Byte)
  /-- `SBC A,r`: R332. -/
  | sbcAR (r : Reg8)
  /-- `SUB (HL)`: R333. -/
  | subAtHl
  /-- `SUB (IX+d)`: R334. -/
  | subAtIxd (d : Byte)
  /-- `SUB (IY+d)`: R335. -/
  | subAtIyd (d : Byte)
  /-- `SUB n`: R336. -/
  | subN (n : Byte)
  /-- `SUB r`: R337. -/
  | subR (r : Reg8)
  /-- `XOR (HL)`: R338. -/
  | xorAtHl
  /-- `XOR (IX+d)`: R339. -/
  | xorAtIxd (d : Byte)
  /-- `XOR (IY+d)`: R340. -/
  | xorAtIyd (d : Byte)
  /-- `XOR n`: R341. -/
  | xorN (n : Byte)
  /-- `XOR r`: R342. -/
  | xorR (r : Reg8)
  /-- `NEG`: R343. -/
  | neg
  /-- `DEC (HL)`: R344. -/
  | decAtHl
  /-- `DEC (IX+d)`: R345. -/
  | decAtIxd (d : Byte)
  /-- `DEC (IY+d)`: R346. -/
  | decAtIyd (d : Byte)
  /-- `DEC r`: R347. -/
  | decR (r : Reg8)
  /-- `INC (HL)`: R348. -/
  | incAtHl
  /-- `INC (IX+d)`: R349. -/
  | incAtIxd (d : Byte)
  /-- `INC (IY+d)`: R350. -/
  | incAtIyd (d : Byte)
  /-- `INC r`: R351. -/
  | incR (r : Reg8)
  /-- `CPL`: R352. -/
  | cpl
  /-- `RLA`: R353. -/
  | rla
  /-- `RLCA`: R354. -/
  | rlca
  /-- `RRA`: R355. -/
  | rra
  /-- `RRCA`: R356. -/
  | rrca
  /-- `BIT b,(HL)`: R373. -/
  | bitBAtHl (b : BitVec 3)
  /-- `BIT b,(IX+d)`: R374. -/
  | bitBAtIxd (b : BitVec 3) (d : Byte)
  /-- `BIT b,(IY+d)`: R375. -/
  | bitBAtIyd (b : BitVec 3) (d : Byte)
  /-- `BIT b,r`: R376. -/
  | bitBR (b : BitVec 3) (r : Reg8)
  /-- `RES b,(HL)`: R377. -/
  | resBAtHl (b : BitVec 3)
  /-- `RES b,(IX+d)`: R378. -/
  | resBAtIxd (b : BitVec 3) (d : Byte)
  /-- `RES b,(IY+d)`: R379. -/
  | resBAtIyd (b : BitVec 3) (d : Byte)
  /-- `RES b,r`: R380. -/
  | resBR (b : BitVec 3) (r : Reg8)
  /-- `SET b,(HL)`: R381. -/
  | setBAtHl (b : BitVec 3)
  /-- `SET b,(IX+d)`: R382. -/
  | setBAtIxd (b : BitVec 3) (d : Byte)
  /-- `SET b,(IY+d)`: R383. -/
  | setBAtIyd (b : BitVec 3) (d : Byte)
  /-- `SET b,r`: R384. -/
  | setBR (b : BitVec 3) (r : Reg8)
  /-- `RL (HL)`: R385. -/
  | rlAtHl
  /-- `RL (IX+d)`: R386. -/
  | rlAtIxd (d : Byte)
  /-- `RL (IY+d)`: R387. -/
  | rlAtIyd (d : Byte)
  /-- `RL r`: R388. -/
  | rlR (r : Reg8)
  /-- `RLC (HL)`: R389. -/
  | rlcAtHl
  /-- `RLC (IX+d)`: R390. -/
  | rlcAtIxd (d : Byte)
  /-- `RLC (IY+d)`: R391. -/
  | rlcAtIyd (d : Byte)
  /-- `RLC r`: R392. -/
  | rlcR (r : Reg8)
  /-- `RR (HL)`: R393. -/
  | rrAtHl
  /-- `RR (IX+d)`: R394. -/
  | rrAtIxd (d : Byte)
  /-- `RR (IY+d)`: R395. -/
  | rrAtIyd (d : Byte)
  /-- `RR r`: R396. -/
  | rrR (r : Reg8)
  /-- `RRC (HL)`: R397. -/
  | rrcAtHl
  /-- `RRC (IX+d)`: R398. -/
  | rrcAtIxd (d : Byte)
  /-- `RRC (IY+d)`: R399. -/
  | rrcAtIyd (d : Byte)
  /-- `RRC r`: R400. -/
  | rrcR (r : Reg8)
  /-- `SLA (HL)`: R401. -/
  | slaAtHl
  /-- `SLA (IX+d)`: R402. -/
  | slaAtIxd (d : Byte)
  /-- `SLA (IY+d)`: R403. -/
  | slaAtIyd (d : Byte)
  /-- `SLA r`: R404. -/
  | slaR (r : Reg8)
  /-- `SRA (HL)`: R405. -/
  | sraAtHl
  /-- `SRA (IX+d)`: R406. -/
  | sraAtIxd (d : Byte)
  /-- `SRA (IY+d)`: R407. -/
  | sraAtIyd (d : Byte)
  /-- `SRA r`: R408. -/
  | sraR (r : Reg8)
  /-- `SRL (HL)`: R409. -/
  | srlAtHl
  /-- `SRL (IX+d)`: R410. -/
  | srlAtIxd (d : Byte)
  /-- `SRL (IY+d)`: R411. -/
  | srlAtIyd (d : Byte)
  /-- `SRL r`: R412. -/
  | srlR (r : Reg8)
  /-- `ADC HL,ss`: R252. -/
  | adcHlSs (ss : RegSs)
  /-- `ADD HL,ss`: R253. -/
  | addHlSs (ss : RegSs)
  /-- `ADD IX,xx`: R254. -/
  | addIxXx (xx : RegXx)
  /-- `ADD IY,yy`: R255. -/
  | addIyYy (yy : RegYy)
  /-- `ADD SP,d`: R256. -/
  | addSpD (d : Byte)
  /-- `AND HL,DE`: R257. -/
  | andHlDe
  /-- `AND IX,DE`: R258. -/
  | andIxDe
  /-- `AND IY,DE`: R259. -/
  | andIyDe
  /-- `OR HL,DE`: R260. -/
  | orHlDe
  /-- `OR IX,DE`: R261. -/
  | orIxDe
  /-- `OR IY,DE`: R262. -/
  | orIyDe
  /-- `BOOL HL`: R263. -/
  | boolHl
  /-- `BOOL IX`: R264. -/
  | boolIx
  /-- `BOOL IY`: R265. -/
  | boolIy
  /-- `DEC IX`: R266. -/
  | decIx
  /-- `DEC IY`: R267. -/
  | decIy
  /-- `DEC ss`: R268. -/
  | decSs (ss : RegSs)
  /-- `INC IX`: R269. -/
  | incIx
  /-- `INC IY`: R270. -/
  | incIy
  /-- `INC ss`: R271. -/
  | incSs (ss : RegSs)
  /-- `MUL`: R272. -/
  | mul
  /-- `RL DE`: R273. -/
  | rlDe
  /-- `RR DE`: R274. -/
  | rrDe
  /-- `RR HL`: R275. -/
  | rrHl
  /-- `RR IX`: R276. -/
  | rrIx
  /-- `RR IY`: R277. -/
  | rrIy
  /-- `SBC HL,ss`: R278. -/
  | sbcHlSs (ss : RegSs)
  /-- `LD IX,mn`: R142. -/
  | ldIxMn (mn : Word)
  /-- `LD IY,mn`: R143. -/
  | ldIyMn (mn : Word)
  /-- `LD dd,mn`: R144. -/
  | ldDdMn (dd : RegSs) (mn : Word)
  /-- `LD r,n`: R145. -/
  | ldRN (r : Reg8) (n : Byte)
  /-- `LD (mn),A`: R146. -/
  | ldAtMnA (mn : Word)
  /-- `LD A,(mn)`: R147. -/
  | ldAAtMn (mn : Word)
  /-- `LD (mn),HL`: R148. -/
  | ldAtMnHl (mn : Word)
  /-- `LD (mn),IX`: R149. -/
  | ldAtMnIx (mn : Word)
  /-- `LD (mn),IY`: R150. -/
  | ldAtMnIy (mn : Word)
  /-- `LD (mn),ss`: R151. -/
  | ldAtMnSs (mn : Word) (ss : RegSs)
  /-- `LD HL,(mn)`: R152. -/
  | ldHlAtMn (mn : Word)
  /-- `LD IX,(mn)`: R153. -/
  | ldIxAtMn (mn : Word)
  /-- `LD IY,(mn)`: R154. -/
  | ldIyAtMn (mn : Word)
  /-- `LD dd,(mn)`: R155. -/
  | ldDdAtMn (dd : RegSs) (mn : Word)
  /-- `LD (BC),A`: R156. -/
  | ldAtBcA
  /-- `LD (DE),A`: R157. -/
  | ldAtDeA
  /-- `LD (HL),n`: R158. -/
  | ldAtHlN (n : Byte)
  /-- `LD (HL),r`: R159. -/
  | ldAtHlR (r : Reg8)
  /-- `LD r,(HL)`: R160. -/
  | ldRAtHl (r : Reg8)
  /-- `LD A,(BC)`: R161. -/
  | ldAAtBc
  /-- `LD A,(DE)`: R162. -/
  | ldAAtDe
  /-- `LD (IX+d),n`: R163. -/
  | ldAtIxdN (d : Byte) (n : Byte)
  /-- `LD (IX+d),r`: R164. -/
  | ldAtIxdR (d : Byte) (r : Reg8)
  /-- `LD r,(IX+d)`: R165. -/
  | ldRAtIxd (r : Reg8) (d : Byte)
  /-- `LD (IY+d),n`: R166. -/
  | ldAtIydN (d : Byte) (n : Byte)
  /-- `LD (IY+d),r`: R167. -/
  | ldAtIydR (d : Byte) (r : Reg8)
  /-- `LD r,(IY+d)`: R168. -/
  | ldRAtIyd (r : Reg8) (d : Byte)
  /-- `LD (HL+d),HL`: R169. -/
  | ldAtHldHl (d : Byte)
  /-- `LD HL,(HL+d)`: R170. -/
  | ldHlAtHld (d : Byte)
  /-- `LD (SP+n),HL`: R171. -/
  | ldAtSpnHl (n : Byte)
  /-- `LD (SP+n),IX`: R172. -/
  | ldAtSpnIx (n : Byte)
  /-- `LD (SP+n),IY`: R173. -/
  | ldAtSpnIy (n : Byte)
  /-- `LD HL,(SP+n)`: R174. -/
  | ldHlAtSpn (n : Byte)
  /-- `LD IX,(SP+n)`: R175. -/
  | ldIxAtSpn (n : Byte)
  /-- `LD IY,(SP+n)`: R176. -/
  | ldIyAtSpn (n : Byte)
  /-- `LD (IX+d),HL`: R177. -/
  | ldAtIxdHl (d : Byte)
  /-- `LD HL,(IX+d)`: R178. -/
  | ldHlAtIxd (d : Byte)
  /-- `LD (IY+d),HL`: R179. -/
  | ldAtIydHl (d : Byte)
  /-- `LD HL,(IY+d)`: R180. -/
  | ldHlAtIyd (d : Byte)
  /-- `LDP (HL),HL`: R181. -/
  | ldpAtHlHl
  /-- `LDP (IX),HL`: R182. -/
  | ldpAtIxHl
  /-- `LDP (IY),HL`: R183. -/
  | ldpAtIyHl
  /-- `LDP (mn),HL`: R184. -/
  | ldpAtMnHl (mn : Word)
  /-- `LDP (mn),IX`: R185. -/
  | ldpAtMnIx (mn : Word)
  /-- `LDP (mn),IY`: R186. -/
  | ldpAtMnIy (mn : Word)
  /-- `LDP HL,(HL)`: R187. -/
  | ldpHlAtHl
  /-- `LDP HL,(IX)`: R188. -/
  | ldpHlAtIx
  /-- `LDP HL,(IY)`: R189. -/
  | ldpHlAtIy
  /-- `LDP HL,(mn)`: R190. -/
  | ldpHlAtMn (mn : Word)
  /-- `LDP IX,(mn)`: R191. -/
  | ldpIxAtMn (mn : Word)
  /-- `LDP IY,(mn)`: R192. -/
  | ldpIyAtMn (mn : Word)
  /-- `LD A,EIR`: R202. -/
  | ldAEir
  /-- `LD A,IIR`: R203. -/
  | ldAIir
  /-- `LD A,XPC`: R204. -/
  | ldAXpc
  /-- `LD dd',BC`: R205. -/
  | ldAltDdBc (da : RegAlt)
  /-- `LD dd',DE`: R206. -/
  | ldAltDdDe (da : RegAlt)
  /-- `LD EIR,A`: R207. -/
  | ldEirA
  /-- `LD IIR,A`: R208. -/
  | ldIirA
  /-- `LD HL,IX`: R209. -/
  | ldHlIx
  /-- `LD HL,IY`: R210. -/
  | ldHlIy
  /-- `LD IX,HL`: R211. -/
  | ldIxHl
  /-- `LD IY,HL`: R212. -/
  | ldIyHl
  /-- `LD SP,HL`: R213. -/
  | ldSpHl
  /-- `LD SP,IX`: R214. -/
  | ldSpIx
  /-- `LD SP,IY`: R215. -/
  | ldSpIy
  /-- `LD XPC,A`: R216. -/
  | ldXpcA
  /-- `LD r,g`: R217. -/
  | ldRG (r : Reg8) (g : Reg8)
  /-- `EX (SP),HL`: R218. -/
  | exAtSpHl
  /-- `EX (SP),IX`: R219. -/
  | exAtSpIx
  /-- `EX (SP),IY`: R220. -/
  | exAtSpIy
  /-- `EX AF,AF'`: R221. -/
  | exAfAltAf
  /-- `EX DE,HL`: R222. -/
  | exDeHl
  /-- `EX DE',HL`: R223. -/
  | exAltDeHl
  /-- `EXX`: R224. -/
  | exx
  /-- `POP IP`: R225. -/
  | popIp
  /-- `POP IX`: R226. -/
  | popIx
  /-- `POP IY`: R227. -/
  | popIy
  /-- `POP zz`: R228. -/
  | popZz (zz : RegZz)
  /-- `PUSH IP`: R229. -/
  | pushIp
  /-- `PUSH IX`: R230. -/
  | pushIx
  /-- `PUSH IY`: R231. -/
  | pushIy
  /-- `PUSH zz`: R232. -/
  | pushZz (zz : RegZz)
  /-- `ALTD`: R430. -/
  | altd
  /-- `IOI`: R432. -/
  | ioi
  /-- `IOE`: R433. -/
  | ioe
  /-- `LDD`: R440. -/
  | ldd
  /-- `LDDR`: R441. -/
  | lddr
  /-- `LDI`: R442. -/
  | ldi
  /-- `LDIR`: R443. -/
  | ldir
  /-- `CALL mn`: R454. -/
  | callMn (mn : Word)
  /-- `DJNZ e`: R455. -/
  | djnzE (e : Byte)
  /-- `JP (HL)`: R456. -/
  | jpAtHl
  /-- `JP (IX)`: R457. -/
  | jpAtIx
  /-- `JP (IY)`: R458. -/
  | jpAtIy
  /-- `JP f,mn`: R459. -/
  | jpFMn (f : Cond) (mn : Word)
  /-- `JP mn`: R460. -/
  | jpMn (mn : Word)
  /-- `JR cc,e`: R461. -/
  | jrCcE (cc : Cc) (e : Byte)
  /-- `JR e`: R462. -/
  | jrE (e : Byte)
  /-- `LCALL x,mn`: R463. -/
  | lcallXMn (x : Byte) (mn : Word)
  /-- `LJP x,mn`: R464. -/
  | ljpXMn (x : Byte) (mn : Word)
  /-- `LRET`: R465. -/
  | lret
  /-- `RET`: R466. -/
  | ret
  /-- `RET f`: R467. -/
  | retF (f : Cond)
  /-- `RETI`: R468. -/
  | reti
  /-- `RST v`: R469. -/
  | rstV (v : BitVec 3)
  /-- `CCF`: R470. -/
  | ccf
  /-- `IPSET 0`: R471. -/
  | ipset0
  /-- `IPSET 1`: R472. -/
  | ipset1
  /-- `IPSET 2`: R473. -/
  | ipset2
  /-- `IPSET 3`: R474. -/
  | ipset3
  /-- `IPRES`: R475. -/
  | ipres
  /-- `NOP`: R476. -/
  | nop
  /-- `SCF`: R477. -/
  | scf
deriving DecidableEq, Repr

end Sys2Proof
end

