-- ==== Sys2Proof/Machine/Flags.lean ====
section
/-! DEFINITION. The flags: their places in F, their writes, and every flag computation of 00_scope.md R14. -/

namespace Sys2Proof.Machine

/-- `f` with bit `i` set to `b`. -/
def putBit (f : Byte) (i : Nat) (b : Bool) : Byte :=
  if b then f ||| (1#8 <<< i) else f &&& ~~~(1#8 <<< i)

/-- S of a flags byte (10_state.md R41, R43). -/
def flagS (f : Byte) : Bool := f.getLsbD flagSBit

/-- Z of a flags byte. -/
def flagZ (f : Byte) : Bool := f.getLsbD flagZBit

/-- L/V of a flags byte. -/
def flagLV (f : Byte) : Bool := f.getLsbD flagLVBit

/-- C of a flags byte. -/
def flagC (f : Byte) : Bool := f.getLsbD flagCBit

/-- The flags an instruction writes; `none` is a flag it does not name, which keeps its value (00_scope.md R11). -/
structure FlagWrite where
  s  : Option Bool := none
  z  : Option Bool := none
  lv : Option Bool := none
  c  : Option Bool := none
deriving DecidableEq, Repr

/-- Write one flag if it is named. -/
def putFlag (i : Nat) (v : Option Bool) (f : Byte) : Byte :=
  match v with
  | some b => putBit f i b
  | none => f

/-- Write the named flags, and only those; the other bits of F are storage (10_state.md R43). -/
def applyFlags (w : FlagWrite) (f : Byte) : Byte :=
  putFlag flagCBit w.c (putFlag flagLVBit w.lv (putFlag flagZBit w.z (putFlag flagSBit w.s f)))

/-- A result with the four conditions of an addition or subtraction. -/
structure Arith (n : Nat) where
  res : BitVec n
  s   : Bool
  z   : Bool
  v   : Bool
  c   : Bool
deriving DecidableEq, Repr

/-- `add_N` of 00_scope.md R14 (log 26). -/
def addN {n : Nat} (a b : BitVec n) (cin : Bool) : Arith n :=
  let sum := a.toNat + b.toNat + cin.toNat
  let res := BitVec.ofNat n sum
  { res, s := res.msb, z := res == 0#n, v := (a.msb == b.msb) && (res.msb != a.msb), c := decide (2 ^ n ≤ sum) }

/-- `sub_N` of 00_scope.md R14 (log 26): C is the borrow. -/
def subN {n : Nat} (a b : BitVec n) (cin : Bool) : Arith n :=
  let dif : Int := (a.toNat : Int) - b.toNat - cin.toNat
  let res := BitVec.ofInt n dif
  { res, s := res.msb, z := res == 0#n, v := (a.msb != b.msb) && (res.msb != a.msb), c := decide (dif < 0) }

/-- S, Z, L/V and C from an addition or subtraction: the key `* * V *`. -/
def Arith.all {n : Nat} (r : Arith n) : FlagWrite := { s := r.s, z := r.z, lv := r.v, c := r.c }

/-- S, Z and L/V without C: INC and DEC of a byte (43_arith8.md R302). -/
def Arith.notC {n : Nat} (r : Arith n) : FlagWrite := { s := r.s, z := r.z, lv := r.v }

/-- C alone: ADD on a word register (42_arith16.md R250). -/
def Arith.onlyC {n : Nat} (r : Arith n) : FlagWrite := { c := r.c }

/-- The logical check L of 00_scope.md R14: any of the four most significant bits is 1. -/
def logicL {n : Nat} (res : BitVec n) : Bool := res.extractLsb' (n - 4) 4 != 0#4

/-- `logic_N` of 00_scope.md R14 together with the given C. -/
def logicFlags {n : Nat} (res : BitVec n) (c : Bool) : FlagWrite :=
  { s := res.msb, z := res == 0#n, lv := logicL res, c := c }

/-- BOOL: S and Z of the result, L/V and C cleared (42_arith16.md R250). -/
def boolFlags (res : Word) : FlagWrite := { s := res.msb, z := res == 0#16, lv := false, c := false }

/-- LD A,EIR and LD A,IIR: S and Z of the byte loaded (41_move_exchange_stack.md R202, R203; log 24). -/
def moveFlags (v : Byte) : FlagWrite := { s := v.msb, z := v == 0#8 }

/-- The block moves: L/V is "the new BC is not zero" (45_prefix_block.md R440 to R443; log 22). -/
def blockFlags (bc : Word) : FlagWrite := { lv := bc != 0#16 }

/-- The eight accumulator operations (43_arith8.md R300). -/
inductive AluOp where
  | add | adc | sub | sbc | and | xor | or | cp
deriving DecidableEq, Repr

/-- The value an accumulator operation computes from A, its operand and the carry (43_arith8.md R303 to R342). -/
def AluOp.value : AluOp → Byte → Byte → Bool → Byte
  | .add, a, v, _ => (addN a v false).res
  | .adc, a, v, cf => (addN a v cf).res
  | .sub, a, v, _ => (subN a v false).res
  | .sbc, a, v, cf => (subN a v cf).res
  | .and, a, v, _ => a &&& v
  | .xor, a, v, _ => a ^^^ v
  | .or, a, v, _ => a ||| v
  | .cp, a, v, _ => (subN a v false).res

/-- The flags an accumulator operation writes (43_arith8.md R301). -/
def AluOp.flags : AluOp → Byte → Byte → Bool → FlagWrite
  | .add, a, v, _ => (addN a v false).all
  | .adc, a, v, cf => (addN a v cf).all
  | .sub, a, v, _ => (subN a v false).all
  | .sbc, a, v, cf => (subN a v cf).all
  | .and, a, v, _ => logicFlags (a &&& v) false
  | .xor, a, v, _ => logicFlags (a ^^^ v) false
  | .or, a, v, _ => logicFlags (a ||| v) false
  | .cp, a, v, _ => (subN a v false).all

/-- The seven shifts and rotates (44_bit_shift_rotate.md R370). -/
inductive ShiftOp where
  | rlc | rrc | rl | rr | sla | sra | srl
deriving DecidableEq, Repr

/-- The value a shift or rotate computes from its operand and the carry (44_bit_shift_rotate.md R385 to R412). -/
def ShiftOp.value : ShiftOp → Byte → Bool → Byte
  | .rlc, v, _ => v.extractLsb' 0 7 ++ v.extractLsb' 7 1
  | .rrc, v, _ => v.extractLsb' 0 1 ++ v.extractLsb' 1 7
  | .rl, v, cf => v.extractLsb' 0 7 ++ BitVec.ofBool cf
  | .rr, v, cf => BitVec.ofBool cf ++ v.extractLsb' 1 7
  | .sla, v, _ => v.extractLsb' 0 7 ++ 0#1
  | .sra, v, _ => v.extractLsb' 7 1 ++ v.extractLsb' 1 7
  | .srl, v, _ => 0#1 ++ v.extractLsb' 1 7

/-- The bit a shift or rotate moves out. -/
def ShiftOp.carry : ShiftOp → Byte → Bool
  | .rlc, v | .rl, v | .sla, v => v.getLsbD 7
  | .rrc, v | .rr, v | .sra, v | .srl, v => v.getLsbD 0

/-- `W[14:0] ++ CF` of RL DE (42_arith16.md R273). -/
def rotateLeft16 (w : Word) (cf : Bool) : Word := w.extractLsb' 0 15 ++ BitVec.ofBool cf

/-- `CF ++ W[15:1]` of RR on a word register (42_arith16.md R274 to R277). -/
def rotateRight16 (w : Word) (cf : Bool) : Word := BitVec.ofBool cf ++ w.extractLsb' 1 15

/-- The truth value of a word (42_arith16.md R263). -/
def boolValue (w : Word) : Word := if w = 0 then 0 else 1

/-- The signed 16 by 16 bit product as 32 bits (42_arith16.md R272). -/
def mulSigned (x y : Word) : BitVec 32 := BitVec.ofInt 32 (x.toInt * y.toInt)

/-- Whether a condition holds of a flags byte (10_state.md R42). -/
def condHolds (f : Byte) : Cond → Bool
  | .nz => !flagZ f
  | .z => flagZ f
  | .nc => !flagC f
  | .c => flagC f
  | .lz => !flagLV f
  | .lo => flagLV f
  | .p => !flagS f
  | .m => flagS f

/-- The four codes of `cc` are the first four of `f` (30_encoding.md R115). -/
def ccCond : Cc → Cond
  | .nz => .nz
  | .z => .z
  | .nc => .nc
  | .c => .c

end Sys2Proof.Machine
end

