-- ==== Sys2Proof/Machine/Operands.lean ====
section
/-! DEFINITION. The registers as operands, the alternate-destination writes of 00_scope.md R11, and the addressing
modes of 40_load_store.md R141. -/

namespace Sys2Proof.Machine

/-- What the latches select while one instruction executes: whether destinations and flags go to the alternate bank,
and which I/O space, if any, its marked accesses go to (45_prefix_block.md R431, R434). -/
structure Ctx where
  alt : Bool
  io  : Option IoSpace
deriving DecidableEq, Repr

/-- Read the byte register a field selects (30_encoding.md R108). -/
def Bank.get (k : Bank) : Reg8 → Byte
  | .b => k.b
  | .c => k.c
  | .d => k.d
  | .e => k.e
  | .h => k.h
  | .l => k.l
  | .a => k.a

/-- Write the byte register a field selects. -/
def Bank.set (k : Bank) (r : Reg8) (v : Byte) : Bank :=
  match r with
  | .b => { k with b := v }
  | .c => { k with c := v }
  | .d => { k with d := v }
  | .e => { k with e := v }
  | .h => { k with h := v }
  | .l => { k with l := v }
  | .a => { k with a := v }

/-- Read a register pair: the first letter is the high byte (10_state.md R32). -/
def Bank.getPair (k : Bank) : RegZz → Word
  | .bc => pair k.b k.c
  | .de => pair k.d k.e
  | .hl => pair k.h k.l
  | .af => pair k.a k.f

/-- Write a register pair: both halves (10_state.md R32). -/
def Bank.setPair (k : Bank) (p : RegZz) (w : Word) : Bank :=
  match p with
  | .bc => { k with b := hi w, c := lo w }
  | .de => { k with d := hi w, e := lo w }
  | .hl => { k with h := hi w, l := lo w }
  | .af => { k with a := hi w, f := lo w }

/-- Write the named flags of a bank (00_scope.md R11). -/
def Bank.setFlags (k : Bank) (w : FlagWrite) : Bank := { k with f := applyFlags w k.f }

/-- A word register of the main bank in an expression: reads are of the main bank (00_scope.md R11, log 29). -/
def State.bc (s : State) : Word := s.main.getPair .bc

/-- DE of the main bank. -/
def State.de (s : State) : Word := s.main.getPair .de

/-- HL of the main bank. -/
def State.hl (s : State) : Word := s.main.getPair .hl

/-- The carry flag of the main bank (10_state.md R45). -/
def State.cf (s : State) : Bool := flagC s.main.f

/-- Change one bank and nothing else: the one way an instruction writes a byte register, a pair or a flag. -/
def State.mapBank (s : State) (alt : Bool) (g : Bank → Bank) : State :=
  if alt then { s with alt := g s.alt } else { s with main := g s.main }

/-- `dst(r) <- v` (00_scope.md R11). -/
def dst8 (c : Ctx) (r : Reg8) (v : Byte) (s : State) : State := s.mapBank c.alt (·.set r v)

/-- `setflags(..)` (00_scope.md R11). -/
def setFlags (c : Ctx) (w : FlagWrite) (s : State) : State := s.mapBank c.alt (·.setFlags w)

/-- A word register an instruction names: a pair of the bank, or IX, IY, SP, which have no alternate
(10_state.md R33). -/
inductive WordReg where
  | pair (p : RegZz)
  | ix
  | iy
  | sp
deriving DecidableEq, Repr

/-- Read a word register; a pair is the main bank's (00_scope.md R11). -/
def WordReg.read : WordReg → State → Word
  | .pair p, s => s.main.getPair p
  | .ix, s => s.ix
  | .iy, s => s.iy
  | .sp, s => s.sp

/-- Write a word register; only a pair is redirected to the alternate bank (45_prefix_block.md R431). -/
def WordReg.dst (c : Ctx) (r : WordReg) (w : Word) (s : State) : State :=
  match r with
  | .pair p => s.mapBank c.alt (·.setPair p w)
  | .ix => { s with ix := w }
  | .iy => { s with iy := w }
  | .sp => { s with sp := w }

/-- The register of the field `ss` or `dd` (30_encoding.md R109). -/
def ssReg : RegSs → WordReg
  | .bc => .pair .bc
  | .de => .pair .de
  | .hl => .pair .hl
  | .sp => .sp

/-- The register of the field `xx` (30_encoding.md R111). -/
def xxReg : RegXx → WordReg
  | .bc => .pair .bc
  | .de => .pair .de
  | .ix => .ix
  | .sp => .sp

/-- The register of the field `yy` (30_encoding.md R112). -/
def yyReg : RegYy → WordReg
  | .bc => .pair .bc
  | .de => .pair .de
  | .iy => .iy
  | .sp => .sp

/-- The register of the field `dd'`, as a pair (30_encoding.md R113). -/
def altPair : RegAlt → RegZz
  | .bc => .bc
  | .de => .de
  | .hl => .hl

/-- The addressing modes that an I/O latch redirects (40_load_store.md R141, 20_memory.md R79). -/
inductive MemAt where
  | bc
  | de
  | hl
  | mn (mn : Word)
  | ixd (d : Byte)
  | iyd (d : Byte)
  | hld (d : Byte)
deriving DecidableEq, Repr

/-- The effective address of a mode, modulo 2^16 (20_memory.md R73). -/
def MemAt.addr : MemAt → State → Word
  | .bc, s => s.bc
  | .de, s => s.de
  | .hl, s => s.hl
  | .mn a, _ => a
  | .ixd d, s => s.ix + sext16 d
  | .iyd d, s => s.iy + sext16 d
  | .hld d, s => s.hl + sext16 d

/-- The effective address of `(SP+n)`: `n` is unsigned (30_encoding.md R117, 20_memory.md R73). -/
def spnAddr (n : Byte) (s : State) : Word := s.sp + zext16 n

/-- A byte operand that is read: a register, a constant, or memory (43_arith8.md R300). -/
inductive ByteSrc where
  | reg (r : Reg8)
  | imm (n : Byte)
  | mem (m : MemAt)
deriving DecidableEq, Repr

end Sys2Proof.Machine
end

