-- ==== Sys2Proof/Machine/Ops.lean ====
section
/-! DEFINITION. The shared operations: memory, I/O, the stack, the life of the latches around an instruction, and taking
an interrupt with the return from it. -/

namespace Sys2Proof.Machine

/-- The byte listed at a physical address. -/
def memGet (p : Nat) : Memory → Option Byte
  | [] => none
  | (q, v) :: m => if p = q then some v else memGet p m

/-- Memory with a byte at a physical address, in canonical form. -/
def memPut (p : Nat) (v : Byte) : Memory → Memory
  | [] => [(p, v)]
  | (q, u) :: m =>
    if p < q then (p, v) :: (q, u) :: m
    else if p = q then (p, v) :: m
    else (q, u) :: memPut p v m

/-- The byte at a physical address, if it has a value (20_memory.md R80). -/
def State.physByte (s : State) (p : PhysAddr) : Option Byte := memGet p.toNat s.mem

/-- Where a logical address lies now (20_memory.md R74). -/
def State.phys (s : State) (a : Word) : PhysAddr := translate a s.xpc s.mmu

/-- The byte at a logical address, if it has a value. -/
def State.byteAt (s : State) (a : Word) : Option Byte := s.physByte (s.phys a)

/-- `PhysRead(p, 1)` (00_scope.md R12); a byte without a value stops the machine (20_memory.md R80). -/
def physRead (p : PhysAddr) (s : State) : Except Fault Byte :=
  match s.physByte p with
  | some v => .ok v
  | none => .error (.unwrittenMemory p)

/-- `PhysWrite(p, 1, v)` (00_scope.md R12). Which ranges are writable is the platform's (20_memory.md R80): here a store
takes effect at every physical byte (DESIGN CHOICE, log 43). -/
def physWrite (p : PhysAddr) (v : Byte) (s : State) : State := { s with mem := memPut p.toNat v s.mem }

/-- `MemRead(a, 1)` (00_scope.md R12, 20_memory.md R74). -/
def memRead (a : Word) (s : State) : Except Fault Byte := physRead (s.phys a) s

/-- `MemWrite(a, 1, v)` (00_scope.md R12, 20_memory.md R74). -/
def memWrite (a : Word) (v : Byte) (s : State) : State := physWrite (s.phys a) v s

/-- `MemRead(a, 2)`: low byte first (00_scope.md R12). -/
def memRead16 (a : Word) (s : State) : Except Fault Word := do
  let l ← memRead a s
  let h ← memRead (a + 1) s
  .ok (pair h l)

/-- `MemWrite(a, 2, w)`: low byte first (00_scope.md R12). -/
def memWrite16 (a : Word) (w : Word) (s : State) : State := memWrite (a + 1) (hi w) (memWrite a (lo w) s)

/-- Two bytes at a physical address and the following one (20_memory.md R75). -/
def physRead16 (p : PhysAddr) (s : State) : Except Fault Word := do
  let l ← physRead p s
  let h ← physRead (ldpNext p) s
  .ok (pair h l)

/-- Two bytes to a physical address and the following one (20_memory.md R75). -/
def physWrite16 (p : PhysAddr) (w : Word) (s : State) : State := physWrite (ldpNext p) (hi w) (physWrite p (lo w) s)

/-- `IoRead(sp, a)`: the next value of the supplied trace, or a free value; the access is recorded
(20_memory.md R77, R78; log 8). -/
def ioRead (sp : IoSpace) (a : Word) (s : State) : Byte × State :=
  match s.ioIn with
  | v :: rest => (v, { s with ioIn := rest, ioTrace := s.ioTrace ++ [.read sp (ioAddr sp a) v] })
  | [] =>
    let v := Config.ioDraw s.ioDraws sp (ioAddr sp a)
    (v, { s with ioDraws := s.ioDraws + 1, ioTrace := s.ioTrace ++ [.read sp (ioAddr sp a) v] })

/-- The MMU state after the next I/O write: what the I/O oracle says, else as it is
(20_memory.md R78, 00_scope.md R7; log 7). -/
def mmuAfterWrite (s : State) : MmuState :=
  match s.mmuIn with
  | some m :: _ => m
  | _ => s.mmu

/-- `IoWrite(sp, a, v)`: the access is recorded and the oracle may change the MMU state, which the next access to memory
already uses; what else it does outside the core is not the model's (20_memory.md R77, R78, R87; log 7, 8). -/
def ioWrite (sp : IoSpace) (a : Word) (v : Byte) (s : State) : State :=
  { s with mmu := mmuAfterWrite s, mmuIn := s.mmuIn.tail, ioTrace := s.ioTrace ++ [.write sp (ioAddr sp a) v] }

/-- `SrcRead(a, 1)` (00_scope.md R12). -/
def srcRead (c : Ctx) (a : Word) (s : State) : Except Fault (Byte × State) :=
  match c.io with
  | some sp => .ok (ioRead sp a s)
  | none => do
    let v ← memRead a s
    .ok (v, s)

/-- `DstWrite(a, 1, v)` (00_scope.md R12). -/
def dstWrite (c : Ctx) (a : Word) (v : Byte) (s : State) : State :=
  match c.io with
  | some sp => ioWrite sp a v s
  | none => memWrite a v s

/-- `SrcRead(a, 2)`: low byte first (20_memory.md R72, R77). -/
def srcRead16 (c : Ctx) (a : Word) (s : State) : Except Fault (Word × State) := do
  let (l, s) ← srcRead c a s
  let (h, s) ← srcRead c (a + 1) s
  .ok (pair h l, s)

/-- `DstWrite(a, 2, w)`: low byte first (20_memory.md R72, R77). -/
def dstWrite16 (c : Ctx) (a : Word) (w : Word) (s : State) : State :=
  dstWrite c (a + 1) (hi w) (dstWrite c a (lo w) s)

/-- Push one byte (41_move_exchange_stack.md R201). -/
def push8 (v : Byte) (s : State) : State := { memWrite (s.sp - 1) v s with sp := s.sp - 1 }

/-- Push a word: high byte at SP-1, then low byte at SP-2 (41_move_exchange_stack.md R201). -/
def push16 (w : Word) (s : State) : State :=
  { memWrite (s.sp - 2) (lo w) (memWrite (s.sp - 1) (hi w) s) with sp := s.sp - 2 }

/-- Pop one byte (41_move_exchange_stack.md R201). -/
def pop8 (s : State) : Except Fault (Byte × State) := do
  let v ← memRead s.sp s
  .ok (v, { s with sp := s.sp + 1 })

/-- Pop a word: low byte at SP, then high byte at SP+1 (41_move_exchange_stack.md R201). -/
def pop16 (s : State) : Except Fault (Word × State) := do
  let w ← memRead16 s.sp s
  .ok (w, { s with sp := s.sp + 2 })

/-- `IP[5:0] ++ p`: a priority is pushed, the oldest is lost (10_state.md R47). -/
def pushPriority (ip : Byte) (p : BitVec 2) : Byte := ip.extractLsb' 0 6 ++ p

/-- `IP[1:0] ++ IP[7:2]`: the previous priority comes back, a rotation (10_state.md R47). -/
def popPriority (ip : Byte) : Byte := ip.extractLsb' 0 2 ++ ip.extractLsb' 2 6

/-- The current processor priority `IP[1:0]` (10_state.md R47). -/
def currentPriority (ip : Byte) : BitVec 2 := ip.extractLsb' 0 2

/-- The two bits of a request's priority (60_exceptions.md R504). -/
def Priority.code : Priority → BitVec 2
  | .p1 => 1
  | .p2 => 2
  | .p3 => 3

/-- The handler address of a request: `IIR ++ off` or `EIR ++ off` (60_exceptions.md R506, R511). -/
def vector (r : IrqRequest) (s : State) : Word := pair (if r.external then s.eir else s.iir) r.off

/-- Taking an interrupt: the sequence of 60_exceptions.md R510 (log 11). PC is the address of the instruction not yet
executed; nothing but the stack, SP, IP and PC changes. -/
def takeInterrupt (r : IrqRequest) (s : State) : State :=
  { push16 s.pc s with ip := pushPriority s.ip r.prio.code, pc := vector r s }

/-- Returning from one: pop IP, then PC (46_control_misc.md R468). -/
def returnFromInterrupt (s : State) : Except Fault State := do
  let (ip, s) ← pop8 s
  let (pc, s) ← pop16 s
  .ok { s with ip := ip, pc := pc }

/-- An interrupt request is eligible exactly when its priority exceeds the processor's (60_exceptions.md R504). -/
def eligible (r : IrqRequest) (s : State) : Bool := currentPriority s.ip < r.prio.code

/-- The request taken at this boundary, if any: the hold latch is clear and the oracle presents an eligible request
(60_exceptions.md R507; log 12). -/
def interruptNow (s : State) : Option IrqRequest :=
  if s.hold then none
  else
    match s.irq with
    | some r :: _ => if eligible r s then some r else none
    | _ => none

/-- The state once the oracle has been asked at this boundary: its answer is used up. It is asked only where an
interrupt could be taken (60_exceptions.md R507), the boundary right after an interrupt entry included (log 12). -/
def afterAsking (s : State) : State := if s.hold then s else { s with irq := s.irq.tail }

/-- The attribute lines of an instruction's rule (00_scope.md R15): an ALTD mark, an I/O mark, whether it is one of the
twelve forms of the I/O bug (70_reset_and_hazards.md R545), and class P (60_exceptions.md R508). -/
structure Marks where
  altd : Bool := false
  io   : Bool := false
  bug  : Bool := false
  priv : Bool := false
deriving DecidableEq, Repr

/-- What the latches select for an instruction with these marks. A latch the instruction has no mark for selects
nothing (45_prefix_block.md R439; log 13, 14); one of the twelve forms without an I/O latch of its own uses the
remembered one (10_state.md R55; log 18). -/
def Marks.ctx (m : Marks) (s : State) : Ctx :=
  { alt := m.altd && s.altd,
    io := if m.io then (match s.io with | some sp => some sp | none => if m.bug then s.iobug else none) else none }

/-- The latches after an instruction that is not ALTD, IOI or IOE: its own latches are used up, `hold` is set by a
privileged one (10_state.md R52 to R54), and `iobug` remembers the I/O space an I/O-marked one executed with
(10_state.md R55; log 16, 18). -/
def complete (m : Marks) (before after : State) : State :=
  { after with altd := false, io := none, hold := m.priv, iobug := if m.io then before.io else none }

/-- What an instruction does between the fetch and the latches. -/
abbrev Body := Ctx → State → Except Fault State

/-- Execute a body under the latches, then let them go. -/
def perform (m : Marks) (body : Body) (s : State) : Out :=
  match body (m.ctx s) s with
  | .ok s' => .next (complete m s s')
  | .error e => .fault e

/-- Run an instruction of ALTD mark R whose destination is `r`: the sequence ALTD and a destination SP is refused, since
SP has no alternate (45_prefix_block.md R439, D26; log 15). -/
def withAlternate (r : WordReg) (run : State → Out) (s : State) : Out :=
  if r = .sp ∧ s.altd = true then .refused .altdSp else run s

/-- Read a byte operand (43_arith8.md R300). -/
def ByteSrc.read (c : Ctx) (o : ByteSrc) (s : State) : Except Fault (Byte × State) :=
  match o with
  | .reg r => .ok (s.main.get r, s)
  | .imm n => .ok (n, s)
  | .mem m => srcRead c (m.addr s) s

/-- `dst(r) <- v` for a value of the state. -/
def setByte (r : Reg8) (v : State → Byte) : Body := fun c s => .ok (dst8 c r (v s) s)

/-- A word register written with a value of the state. -/
def setWord (r : WordReg) (w : State → Word) : Body := fun c s => .ok (r.dst c (w s) s)

/-- A word register and the flags written with values of the state. -/
def setWordFlags (r : WordReg) (w : State → Word) (f : State → FlagWrite) : Body := fun c s =>
  .ok (setFlags c (f s) (r.dst c (w s) s))

/-- Load a byte register from memory or I/O. -/
def loadByte (r : Reg8) (m : MemAt) : Body := fun c s => do
  let (v, s) ← srcRead c (m.addr s) s
  .ok (dst8 c r v s)

/-- Store a byte to memory or I/O. -/
def storeByte (m : MemAt) (v : State → Byte) : Body := fun c s => .ok (dstWrite c (m.addr s) (v s) s)

/-- Load a word register from memory or I/O; the address is computed once (log 39). -/
def loadWord (r : WordReg) (m : MemAt) : Body := fun c s => do
  let (w, s) ← srcRead16 c (m.addr s) s
  .ok (r.dst c w s)

/-- Store a word register to memory or I/O. -/
def storeWord (m : MemAt) (r : WordReg) : Body := fun c s => .ok (dstWrite16 c (m.addr s) (r.read s) s)

/-- Load a word register from the stack frame: always memory (20_memory.md R79). -/
def loadFrame (r : WordReg) (n : Byte) : Body := fun c s => do
  let w ← memRead16 (spnAddr n s) s
  .ok (r.dst c w s)

/-- Store a word register to the stack frame: always memory (20_memory.md R79). -/
def storeFrame (n : Byte) (r : WordReg) : Body := fun _ s => .ok (memWrite16 (spnAddr n s) (r.read s) s)

/-- Load a word register from a physical address (20_memory.md R75). -/
def loadPhys (r : WordReg) (a16 : State → Word) : Body := fun c s => do
  let w ← physRead16 (ldpAddr s.main.a (a16 s)) s
  .ok (r.dst c w s)

/-- Store a word register to a physical address (20_memory.md R75). -/
def storePhys (a16 : State → Word) (r : WordReg) : Body := fun _ s =>
  .ok (physWrite16 (ldpAddr s.main.a (a16 s)) (r.read s) s)

/-- Exchange a word register with the word on top of the stack: both bytes are read before either is written
(41_move_exchange_stack.md R218 to R220; log 39). -/
def exchangeTop (r : WordReg) : Body := fun c s => do
  let w ← memRead16 s.sp s
  .ok (r.dst c w (memWrite16 s.sp (r.read s) s))

/-- Push a word register. -/
def pushWord (r : WordReg) : Body := fun _ s => .ok (push16 (r.read s) s)

/-- Pop a word register. -/
def popWord (r : WordReg) : Body := fun c s => do
  let (w, s) ← pop16 s
  .ok (r.dst c w s)

/-- An accumulator operation: A is the first operand and, but for CP, the destination (43_arith8.md R300). -/
def alu (op : AluOp) (o : ByteSrc) : Body := fun c s => do
  let (v, s') ← o.read c s
  let kept := if op = .cp then s' else dst8 c .a (op.value s.main.a v s.cf) s'
  .ok (setFlags c (op.flags s.main.a v s.cf) kept)

/-- Change a byte register and write flags, both from its old value. -/
def modifyReg (r : Reg8) (g : Byte → Byte) (f : Byte → FlagWrite) : Body := fun c s =>
  .ok (setFlags c (f (s.main.get r)) (dst8 c r (g (s.main.get r)) s))

/-- Read a byte, change it and write it back to the same place, and write flags from its old value
(44_bit_shift_rotate.md R372). -/
def modifyMem (m : MemAt) (g : Byte → Byte) (f : Byte → FlagWrite) : Body := fun c s => do
  let (v, s') ← srcRead c (m.addr s) s
  .ok (setFlags c (f v) (dstWrite c (m.addr s) (g v) s'))

/-- A shift or rotate of a byte register (44_bit_shift_rotate.md R372). -/
def shiftReg (op : ShiftOp) (r : Reg8) : Body := fun c s =>
  modifyReg r (op.value · s.cf) (fun v => logicFlags (op.value v s.cf) (op.carry v)) c s

/-- A shift or rotate of a byte in memory or I/O (44_bit_shift_rotate.md R372). -/
def shiftMem (op : ShiftOp) (m : MemAt) : Body := fun c s =>
  modifyMem m (op.value · s.cf) (fun v => logicFlags (op.value v s.cf) (op.carry v)) c s

/-- A rotate of A that writes only C (43_arith8.md R302). -/
def rotateA (op : ShiftOp) : Body := fun c s =>
  modifyReg .a (op.value · s.cf) (fun v => { c := op.carry v }) c s

/-- INC of a byte (43_arith8.md R302). -/
def incValue (v : Byte) : Arith 8 := addN v 1#8 false

/-- DEC of a byte (43_arith8.md R302). -/
def decValue (v : Byte) : Arith 8 := subN v 1#8 false

/-- `v & ~(1 << b)` (44_bit_shift_rotate.md R377). -/
def clearBit (b : BitVec 3) (v : Byte) : Byte := v &&& ~~~(1#8 <<< b.toNat)

/-- `v | (1 << b)` (44_bit_shift_rotate.md R381). -/
def raiseBit (b : BitVec 3) (v : Byte) : Byte := v ||| (1#8 <<< b.toNat)

/-- Test a bit of a byte operand: Z is "the bit is 0" (44_bit_shift_rotate.md R372). -/
def testBit (b : BitVec 3) (o : ByteSrc) : Body := fun c s => do
  let (v, s) ← o.read c s
  .ok (setFlags c { z := !v.getLsbD b.toNat } s)

/-- ADC or ADD of a word register, and SBC, as `add_16` and `sub_16` (42_arith16.md R250). -/
def arith16 (r : WordReg) (g : State → Arith 16) (f : Arith 16 → FlagWrite) : Body :=
  setWordFlags r (fun s => (g s).res) (fun s => f (g s))

/-- A 16-bit logical operation: S, Z, L/V of the result, C cleared (42_arith16.md R250). -/
def logic16 (r : WordReg) (g : State → Word) : Body := setWordFlags r g (fun s => logicFlags (g s) false)

/-- BOOL on a word register (42_arith16.md R263). -/
def boolWord (r : WordReg) : Body :=
  setWordFlags r (fun s => boolValue (r.read s)) (fun s => boolFlags (boolValue (r.read s)))

/-- RR on a word register (42_arith16.md R250). -/
def rotateRightWord (r : WordReg) : Body :=
  setWordFlags r (fun s => rotateRight16 (r.read s) s.cf)
    (fun s => logicFlags (rotateRight16 (r.read s) s.cf) ((r.read s).getLsbD 0))

/-- One byte of a block move, the pointers moving by `step`: the source is always memory, the pointers are never
redirected to the alternate bank (45_prefix_block.md R431, R440 to R443). -/
def blockOnce (step : Word) : Body := fun c s => do
  let v ← memRead s.hl s
  let s := dstWrite c s.de v s
  let k := s.main
  let moved := ((k.setPair .bc (k.getPair .bc - 1)).setPair .de (k.getPair .de + step)).setPair .hl
    (k.getPair .hl + step)
  .ok { s with main := moved.setFlags (blockFlags (k.getPair .bc - 1)) }

/-- `n` bytes of a block move; the whole repetition is one instruction (45_prefix_block.md R441, R443). -/
def blockLoop (step : Word) : Nat → Body
  | 0 => fun _ s => .ok s
  | n + 1 => fun c s => do
    let s ← blockOnce step c s
    blockLoop step n c s

/-- Jump if a condition holds; otherwise PC stays at the next instruction (46_control_misc.md R452). -/
def jumpIf (holds : State → Bool) (target : State → Word) : Body := fun _ s =>
  .ok (if holds s then { s with pc := target s } else s)

/-- The target of a relative jump: the stored byte is added to the address of the next instruction
(46_control_misc.md R451). -/
def relTarget (e : Byte) (s : State) : Word := s.pc + sext16 e

/-- Push the return address and jump (46_control_misc.md R454). -/
def callTo (target : State → Word) : Body := fun _ s => .ok { push16 s.pc s with pc := target s }

/-- Pop the return address (46_control_misc.md R466). -/
def returnBody : Body := fun _ s => do
  let (pc, s) ← pop16 s
  .ok { s with pc := pc }

/-- The target of a restart: `IIR ++ 0 ++ v ++ 0000` (46_control_misc.md R469). -/
def restartTarget (v : BitVec 3) (s : State) : Word := s.iir ++ (0#1 ++ v ++ 0#4)

/-- IPSET (46_control_misc.md R471 to R474). -/
def ipSet (p : BitVec 2) : Body := fun _ s => .ok { s with ip := pushPriority s.ip p }

/-- IOI and IOE: set the io latch, unless it is already set (45_prefix_block.md R432, R433, R435). -/
def selectIo (sp : IoSpace) (s : State) : Out :=
  match s.io with
  | none => .next { s with io := some sp, hold := true, iobug := none }
  | some _ => .refused .secondIoPrefix

end Sys2Proof.Machine
end

