-- ==== Sys2Proof/Machine/Arith16.lean ====
section
/-! DEFINITION. 16-bit arithmetic, logic and rotates, group I (42_arith16.md R252 to R278).
While a meaning runs, PC is already the address of the next instruction (10_state.md R38). -/

namespace Sys2Proof.Machine

/-- `ADC HL,ss`: R252. -/
def execAdcHlSs (ss : RegSs) (s : State) : Out :=
  perform { altd := true } (arith16 (.pair .hl) (fun s => addN s.hl ((ssReg ss).read s) s.cf) Arith.all) s

/-- `ADD HL,ss`: R253. -/
def execAddHlSs (ss : RegSs) (s : State) : Out :=
  perform { altd := true } (arith16 (.pair .hl) (fun s => addN s.hl ((ssReg ss).read s) false) Arith.onlyC) s

/-- `ADD IX,xx`: R254. -/
def execAddIxXx (xx : RegXx) (s : State) : Out :=
  perform { altd := true } (arith16 .ix (fun s => addN s.ix ((xxReg xx).read s) false) Arith.onlyC) s

/-- `ADD IY,yy`: R255. -/
def execAddIyYy (yy : RegYy) (s : State) : Out :=
  perform { altd := true } (arith16 .iy (fun s => addN s.iy ((yyReg yy).read s) false) Arith.onlyC) s

/-- `ADD SP,d`: R256. -/
def execAddSpD (d : Byte) (s : State) : Out :=
  perform { altd := true } (arith16 .sp (fun s => addN s.sp (sext16 d) false) Arith.onlyC) s

/-- `AND HL,DE`: R257. -/
def execAndHlDe (s : State) : Out :=
  perform { altd := true } (logic16 (.pair .hl) (fun s => s.hl &&& s.de)) s

/-- `AND IX,DE`: R258. -/
def execAndIxDe (s : State) : Out :=
  perform { altd := true } (logic16 .ix (fun s => s.ix &&& s.de)) s

/-- `AND IY,DE`: R259. -/
def execAndIyDe (s : State) : Out :=
  perform { altd := true } (logic16 .iy (fun s => s.iy &&& s.de)) s

/-- `OR HL,DE`: R260. -/
def execOrHlDe (s : State) : Out :=
  perform { altd := true } (logic16 (.pair .hl) (fun s => s.hl ||| s.de)) s

/-- `OR IX,DE`: R261. -/
def execOrIxDe (s : State) : Out :=
  perform { altd := true } (logic16 .ix (fun s => s.ix ||| s.de)) s

/-- `OR IY,DE`: R262. -/
def execOrIyDe (s : State) : Out :=
  perform { altd := true } (logic16 .iy (fun s => s.iy ||| s.de)) s

/-- `BOOL HL`: R263. -/
def execBoolHl (s : State) : Out :=
  perform { altd := true } (boolWord (.pair .hl)) s

/-- `BOOL IX`: R264. -/
def execBoolIx (s : State) : Out :=
  perform { altd := true } (boolWord .ix) s

/-- `BOOL IY`: R265. -/
def execBoolIy (s : State) : Out :=
  perform { altd := true } (boolWord .iy) s

/-- `DEC IX`: R266. -/
def execDecIx (s : State) : Out :=
  perform {} (setWord .ix (fun s => s.ix - 1)) s

/-- `DEC IY`: R267. -/
def execDecIy (s : State) : Out :=
  perform {} (setWord .iy (fun s => s.iy - 1)) s

/-- `DEC ss`: R268. -/
def execDecSs (ss : RegSs) (s : State) : Out :=
  withAlternate (ssReg ss) (perform { altd := true } (setWord (ssReg ss) (fun s => ((ssReg ss).read s) - 1))) s

/-- `INC IX`: R269. -/
def execIncIx (s : State) : Out :=
  perform {} (setWord .ix (fun s => s.ix + 1)) s

/-- `INC IY`: R270. -/
def execIncIy (s : State) : Out :=
  perform {} (setWord .iy (fun s => s.iy + 1)) s

/-- `INC ss`: R271. -/
def execIncSs (ss : RegSs) (s : State) : Out :=
  withAlternate (ssReg ss) (perform { altd := true } (setWord (ssReg ss) (fun s => ((ssReg ss).read s) + 1))) s

/-- `MUL`: R272. -/
def execMul (s : State) : Out :=
  perform {} (fun c s =>
    let p := mulSigned s.bc s.de
    .ok (WordReg.dst c (.pair .bc) (p.extractLsb' 0 16) (WordReg.dst c (.pair .hl) (p.extractLsb' 16 16) s))) s

/-- `RL DE`: R273. -/
def execRlDe (s : State) : Out :=
  perform { altd := true } (setWordFlags (.pair .de) (fun s => rotateLeft16 s.de s.cf)
    (fun s => logicFlags (rotateLeft16 s.de s.cf) (s.de.getLsbD 15))) s

/-- `RR DE`: R274. -/
def execRrDe (s : State) : Out :=
  perform { altd := true } (rotateRightWord (.pair .de)) s

/-- `RR HL`: R275. -/
def execRrHl (s : State) : Out :=
  perform { altd := true } (rotateRightWord (.pair .hl)) s

/-- `RR IX`: R276. -/
def execRrIx (s : State) : Out :=
  perform { altd := true } (rotateRightWord .ix) s

/-- `RR IY`: R277. -/
def execRrIy (s : State) : Out :=
  perform { altd := true } (rotateRightWord .iy) s

/-- `SBC HL,ss`: R278. -/
def execSbcHlSs (ss : RegSs) (s : State) : Out :=
  perform { altd := true } (arith16 (.pair .hl) (fun s => subN s.hl ((ssReg ss).read s) s.cf) Arith.all) s

end Sys2Proof.Machine
end

