-- ==== Sys2Proof/Machine/Arith8.lean ====
section
/-! DEFINITION. 8-bit arithmetic and logic, groups J, L and M (43_arith8.md R303 to R356).
While a meaning runs, PC is already the address of the next instruction (10_state.md R38). -/

namespace Sys2Proof.Machine

/-- `ADC A,(HL)`: R303. -/
def execAdcAAtHl (s : State) : Out :=
  perform { altd := true, io := true, bug := true } (alu .adc (.mem .hl)) s

/-- `ADC A,(IX+d)`: R304. -/
def execAdcAAtIxd (d : Byte) (s : State) : Out :=
  perform { altd := true, io := true } (alu .adc (.mem (.ixd d))) s

/-- `ADC A,(IY+d)`: R305. -/
def execAdcAAtIyd (d : Byte) (s : State) : Out :=
  perform { altd := true, io := true } (alu .adc (.mem (.iyd d))) s

/-- `ADC A,n`: R306. -/
def execAdcAN (n : Byte) (s : State) : Out :=
  perform { altd := true } (alu .adc (.imm n)) s

/-- `ADC A,r`: R307. -/
def execAdcAR (r : Reg8) (s : State) : Out :=
  perform { altd := true } (alu .adc (.reg r)) s

/-- `ADD A,(HL)`: R308. -/
def execAddAAtHl (s : State) : Out :=
  perform { altd := true, io := true, bug := true } (alu .add (.mem .hl)) s

/-- `ADD A,(IX+d)`: R309. -/
def execAddAAtIxd (d : Byte) (s : State) : Out :=
  perform { altd := true, io := true } (alu .add (.mem (.ixd d))) s

/-- `ADD A,(IY+d)`: R310. -/
def execAddAAtIyd (d : Byte) (s : State) : Out :=
  perform { altd := true, io := true } (alu .add (.mem (.iyd d))) s

/-- `ADD A,n`: R311. -/
def execAddAN (n : Byte) (s : State) : Out :=
  perform { altd := true } (alu .add (.imm n)) s

/-- `ADD A,r`: R312. -/
def execAddAR (r : Reg8) (s : State) : Out :=
  perform { altd := true } (alu .add (.reg r)) s

/-- `AND (HL)`: R313. -/
def execAndAtHl (s : State) : Out :=
  perform { altd := true, io := true, bug := true } (alu .and (.mem .hl)) s

/-- `AND (IX+d)`: R314. -/
def execAndAtIxd (d : Byte) (s : State) : Out :=
  perform { altd := true, io := true } (alu .and (.mem (.ixd d))) s

/-- `AND (IY+d)`: R315. -/
def execAndAtIyd (d : Byte) (s : State) : Out :=
  perform { altd := true, io := true } (alu .and (.mem (.iyd d))) s

/-- `AND n`: R316. -/
def execAndN (n : Byte) (s : State) : Out :=
  perform { altd := true } (alu .and (.imm n)) s

/-- `AND r`: R317. -/
def execAndR (r : Reg8) (s : State) : Out :=
  perform { altd := true } (alu .and (.reg r)) s

/-- `CP (HL)`: R318. -/
def execCpAtHl (s : State) : Out :=
  perform { altd := true, io := true, bug := true } (alu .cp (.mem .hl)) s

/-- `CP (IX+d)`: R319. -/
def execCpAtIxd (d : Byte) (s : State) : Out :=
  perform { altd := true, io := true } (alu .cp (.mem (.ixd d))) s

/-- `CP (IY+d)`: R320. -/
def execCpAtIyd (d : Byte) (s : State) : Out :=
  perform { altd := true, io := true } (alu .cp (.mem (.iyd d))) s

/-- `CP n`: R321. -/
def execCpN (n : Byte) (s : State) : Out :=
  perform { altd := true } (alu .cp (.imm n)) s

/-- `CP r`: R322. -/
def execCpR (r : Reg8) (s : State) : Out :=
  perform { altd := true } (alu .cp (.reg r)) s

/-- `OR (HL)`: R323. -/
def execOrAtHl (s : State) : Out :=
  perform { altd := true, io := true, bug := true } (alu .or (.mem .hl)) s

/-- `OR (IX+d)`: R324. -/
def execOrAtIxd (d : Byte) (s : State) : Out :=
  perform { altd := true, io := true } (alu .or (.mem (.ixd d))) s

/-- `OR (IY+d)`: R325. -/
def execOrAtIyd (d : Byte) (s : State) : Out :=
  perform { altd := true, io := true } (alu .or (.mem (.iyd d))) s

/-- `OR n`: R326. -/
def execOrN (n : Byte) (s : State) : Out :=
  perform { altd := true } (alu .or (.imm n)) s

/-- `OR r`: R327. -/
def execOrR (r : Reg8) (s : State) : Out :=
  perform { altd := true } (alu .or (.reg r)) s

/-- `SBC A,(HL)`: R328. -/
def execSbcAAtHl (s : State) : Out :=
  perform { altd := true, io := true, bug := true } (alu .sbc (.mem .hl)) s

/-- `SBC A,(IX+d)`: R329. -/
def execSbcAAtIxd (d : Byte) (s : State) : Out :=
  perform { altd := true, io := true } (alu .sbc (.mem (.ixd d))) s

/-- `SBC A,(IY+d)`: R330. -/
def execSbcAAtIyd (d : Byte) (s : State) : Out :=
  perform { altd := true, io := true } (alu .sbc (.mem (.iyd d))) s

/-- `SBC A,n`: R331. -/
def execSbcAN (n : Byte) (s : State) : Out :=
  perform { altd := true } (alu .sbc (.imm n)) s

/-- `SBC A,r`: R332. -/
def execSbcAR (r : Reg8) (s : State) : Out :=
  perform { altd := true } (alu .sbc (.reg r)) s

/-- `SUB (HL)`: R333. -/
def execSubAtHl (s : State) : Out :=
  perform { altd := true, io := true, bug := true } (alu .sub (.mem .hl)) s

/-- `SUB (IX+d)`: R334. -/
def execSubAtIxd (d : Byte) (s : State) : Out :=
  perform { altd := true, io := true } (alu .sub (.mem (.ixd d))) s

/-- `SUB (IY+d)`: R335. -/
def execSubAtIyd (d : Byte) (s : State) : Out :=
  perform { altd := true, io := true } (alu .sub (.mem (.iyd d))) s

/-- `SUB n`: R336. -/
def execSubN (n : Byte) (s : State) : Out :=
  perform { altd := true } (alu .sub (.imm n)) s

/-- `SUB r`: R337. -/
def execSubR (r : Reg8) (s : State) : Out :=
  perform { altd := true } (alu .sub (.reg r)) s

/-- `XOR (HL)`: R338. -/
def execXorAtHl (s : State) : Out :=
  perform { altd := true, io := true, bug := true } (alu .xor (.mem .hl)) s

/-- `XOR (IX+d)`: R339. -/
def execXorAtIxd (d : Byte) (s : State) : Out :=
  perform { altd := true, io := true } (alu .xor (.mem (.ixd d))) s

/-- `XOR (IY+d)`: R340. -/
def execXorAtIyd (d : Byte) (s : State) : Out :=
  perform { altd := true, io := true } (alu .xor (.mem (.iyd d))) s

/-- `XOR n`: R341. -/
def execXorN (n : Byte) (s : State) : Out :=
  perform { altd := true } (alu .xor (.imm n)) s

/-- `XOR r`: R342. -/
def execXorR (r : Reg8) (s : State) : Out :=
  perform { altd := true } (alu .xor (.reg r)) s

/-- `NEG`: R343. -/
def execNeg (s : State) : Out :=
  perform { altd := true } (fun c s =>
    .ok (setFlags c (subN 0#8 s.main.a false).all (dst8 c .a (subN 0#8 s.main.a false).res s))) s

/-- `DEC (HL)`: R344. -/
def execDecAtHl (s : State) : Out :=
  perform { altd := true, io := true, bug := true } (modifyMem .hl (fun v => (decValue v).res) (fun v => (decValue v).notC)) s

/-- `DEC (IX+d)`: R345. -/
def execDecAtIxd (d : Byte) (s : State) : Out :=
  perform { altd := true, io := true } (modifyMem (.ixd d) (fun v => (decValue v).res) (fun v => (decValue v).notC)) s

/-- `DEC (IY+d)`: R346. -/
def execDecAtIyd (d : Byte) (s : State) : Out :=
  perform { altd := true, io := true } (modifyMem (.iyd d) (fun v => (decValue v).res) (fun v => (decValue v).notC)) s

/-- `DEC r`: R347. -/
def execDecR (r : Reg8) (s : State) : Out :=
  perform { altd := true } (modifyReg r (fun v => (decValue v).res) (fun v => (decValue v).notC)) s

/-- `INC (HL)`: R348. -/
def execIncAtHl (s : State) : Out :=
  perform { altd := true, io := true, bug := true } (modifyMem .hl (fun v => (incValue v).res) (fun v => (incValue v).notC)) s

/-- `INC (IX+d)`: R349. -/
def execIncAtIxd (d : Byte) (s : State) : Out :=
  perform { altd := true, io := true } (modifyMem (.ixd d) (fun v => (incValue v).res) (fun v => (incValue v).notC)) s

/-- `INC (IY+d)`: R350. -/
def execIncAtIyd (d : Byte) (s : State) : Out :=
  perform { altd := true, io := true } (modifyMem (.iyd d) (fun v => (incValue v).res) (fun v => (incValue v).notC)) s

/-- `INC r`: R351. -/
def execIncR (r : Reg8) (s : State) : Out :=
  perform { altd := true } (modifyReg r (fun v => (incValue v).res) (fun v => (incValue v).notC)) s

/-- `CPL`: R352. -/
def execCpl (s : State) : Out :=
  perform { altd := true } (setByte .a (fun s => ~~~s.main.a)) s

/-- `RLA`: R353. -/
def execRla (s : State) : Out :=
  perform { altd := true } (rotateA .rl) s

/-- `RLCA`: R354. -/
def execRlca (s : State) : Out :=
  perform { altd := true } (rotateA .rlc) s

/-- `RRA`: R355. -/
def execRra (s : State) : Out :=
  perform { altd := true } (rotateA .rr) s

/-- `RRCA`: R356. -/
def execRrca (s : State) : Out :=
  perform { altd := true } (rotateA .rrc) s

end Sys2Proof.Machine
end

