-- ==== Sys2Proof/Machine/BitShift.lean ====
section
/-! DEFINITION. Bit operations, shifts and rotates on bytes, groups K and N (44_bit_shift_rotate.md R373 to R412).
While a meaning runs, PC is already the address of the next instruction (10_state.md R38). -/

namespace Sys2Proof.Machine

/-- `BIT b,(HL)`: R373. -/
def execBitBAtHl (b : BitVec 3) (s : State) : Out :=
  perform { altd := true, io := true, priv := true } (testBit b (.mem .hl)) s

/-- `BIT b,(IX+d)`: R374. -/
def execBitBAtIxd (b : BitVec 3) (d : Byte) (s : State) : Out :=
  perform { altd := true, io := true } (testBit b (.mem (.ixd d))) s

/-- `BIT b,(IY+d)`: R375. -/
def execBitBAtIyd (b : BitVec 3) (d : Byte) (s : State) : Out :=
  perform { altd := true, io := true } (testBit b (.mem (.iyd d))) s

/-- `BIT b,r`: R376. -/
def execBitBR (b : BitVec 3) (r : Reg8) (s : State) : Out :=
  perform { altd := true } (testBit b (.reg r)) s

/-- `RES b,(HL)`: R377. -/
def execResBAtHl (b : BitVec 3) (s : State) : Out :=
  perform { io := true } (modifyMem .hl (clearBit b) (fun _ => {})) s

/-- `RES b,(IX+d)`: R378. -/
def execResBAtIxd (b : BitVec 3) (d : Byte) (s : State) : Out :=
  perform { io := true } (modifyMem (.ixd d) (clearBit b) (fun _ => {})) s

/-- `RES b,(IY+d)`: R379. -/
def execResBAtIyd (b : BitVec 3) (d : Byte) (s : State) : Out :=
  perform { io := true } (modifyMem (.iyd d) (clearBit b) (fun _ => {})) s

/-- `RES b,r`: R380. -/
def execResBR (b : BitVec 3) (r : Reg8) (s : State) : Out :=
  perform { altd := true } (setByte r (fun s => clearBit b (s.main.get r))) s

/-- `SET b,(HL)`: R381. -/
def execSetBAtHl (b : BitVec 3) (s : State) : Out :=
  perform { io := true } (modifyMem .hl (raiseBit b) (fun _ => {})) s

/-- `SET b,(IX+d)`: R382. -/
def execSetBAtIxd (b : BitVec 3) (d : Byte) (s : State) : Out :=
  perform { io := true } (modifyMem (.ixd d) (raiseBit b) (fun _ => {})) s

/-- `SET b,(IY+d)`: R383. -/
def execSetBAtIyd (b : BitVec 3) (d : Byte) (s : State) : Out :=
  perform { io := true } (modifyMem (.iyd d) (raiseBit b) (fun _ => {})) s

/-- `SET b,r`: R384. -/
def execSetBR (b : BitVec 3) (r : Reg8) (s : State) : Out :=
  perform { altd := true } (setByte r (fun s => raiseBit b (s.main.get r))) s

/-- `RL (HL)`: R385. -/
def execRlAtHl (s : State) : Out :=
  perform { altd := true, io := true } (shiftMem .rl .hl) s

/-- `RL (IX+d)`: R386. -/
def execRlAtIxd (d : Byte) (s : State) : Out :=
  perform { altd := true, io := true } (shiftMem .rl (.ixd d)) s

/-- `RL (IY+d)`: R387. -/
def execRlAtIyd (d : Byte) (s : State) : Out :=
  perform { altd := true, io := true } (shiftMem .rl (.iyd d)) s

/-- `RL r`: R388. -/
def execRlR (r : Reg8) (s : State) : Out :=
  perform { altd := true } (shiftReg .rl r) s

/-- `RLC (HL)`: R389. -/
def execRlcAtHl (s : State) : Out :=
  perform { altd := true, io := true } (shiftMem .rlc .hl) s

/-- `RLC (IX+d)`: R390. -/
def execRlcAtIxd (d : Byte) (s : State) : Out :=
  perform { altd := true, io := true } (shiftMem .rlc (.ixd d)) s

/-- `RLC (IY+d)`: R391. -/
def execRlcAtIyd (d : Byte) (s : State) : Out :=
  perform { altd := true, io := true } (shiftMem .rlc (.iyd d)) s

/-- `RLC r`: R392. -/
def execRlcR (r : Reg8) (s : State) : Out :=
  perform { altd := true } (shiftReg .rlc r) s

/-- `RR (HL)`: R393. -/
def execRrAtHl (s : State) : Out :=
  perform { altd := true, io := true } (shiftMem .rr .hl) s

/-- `RR (IX+d)`: R394. -/
def execRrAtIxd (d : Byte) (s : State) : Out :=
  perform { altd := true, io := true } (shiftMem .rr (.ixd d)) s

/-- `RR (IY+d)`: R395. -/
def execRrAtIyd (d : Byte) (s : State) : Out :=
  perform { altd := true, io := true } (shiftMem .rr (.iyd d)) s

/-- `RR r`: R396. -/
def execRrR (r : Reg8) (s : State) : Out :=
  perform { altd := true } (shiftReg .rr r) s

/-- `RRC (HL)`: R397. -/
def execRrcAtHl (s : State) : Out :=
  perform { altd := true, io := true } (shiftMem .rrc .hl) s

/-- `RRC (IX+d)`: R398. -/
def execRrcAtIxd (d : Byte) (s : State) : Out :=
  perform { altd := true, io := true } (shiftMem .rrc (.ixd d)) s

/-- `RRC (IY+d)`: R399. -/
def execRrcAtIyd (d : Byte) (s : State) : Out :=
  perform { altd := true, io := true } (shiftMem .rrc (.iyd d)) s

/-- `RRC r`: R400. -/
def execRrcR (r : Reg8) (s : State) : Out :=
  perform { altd := true } (shiftReg .rrc r) s

/-- `SLA (HL)`: R401. -/
def execSlaAtHl (s : State) : Out :=
  perform { altd := true, io := true } (shiftMem .sla .hl) s

/-- `SLA (IX+d)`: R402. -/
def execSlaAtIxd (d : Byte) (s : State) : Out :=
  perform { altd := true, io := true } (shiftMem .sla (.ixd d)) s

/-- `SLA (IY+d)`: R403. -/
def execSlaAtIyd (d : Byte) (s : State) : Out :=
  perform { altd := true, io := true } (shiftMem .sla (.iyd d)) s

/-- `SLA r`: R404. -/
def execSlaR (r : Reg8) (s : State) : Out :=
  perform { altd := true } (shiftReg .sla r) s

/-- `SRA (HL)`: R405. -/
def execSraAtHl (s : State) : Out :=
  perform { altd := true, io := true } (shiftMem .sra .hl) s

/-- `SRA (IX+d)`: R406. -/
def execSraAtIxd (d : Byte) (s : State) : Out :=
  perform { altd := true, io := true } (shiftMem .sra (.ixd d)) s

/-- `SRA (IY+d)`: R407. -/
def execSraAtIyd (d : Byte) (s : State) : Out :=
  perform { altd := true, io := true } (shiftMem .sra (.iyd d)) s

/-- `SRA r`: R408. -/
def execSraR (r : Reg8) (s : State) : Out :=
  perform { altd := true } (shiftReg .sra r) s

/-- `SRL (HL)`: R409. -/
def execSrlAtHl (s : State) : Out :=
  perform { altd := true, io := true } (shiftMem .srl .hl) s

/-- `SRL (IX+d)`: R410. -/
def execSrlAtIxd (d : Byte) (s : State) : Out :=
  perform { altd := true, io := true } (shiftMem .srl (.ixd d)) s

/-- `SRL (IY+d)`: R411. -/
def execSrlAtIyd (d : Byte) (s : State) : Out :=
  perform { altd := true, io := true } (shiftMem .srl (.iyd d)) s

/-- `SRL r`: R412. -/
def execSrlR (r : Reg8) (s : State) : Out :=
  perform { altd := true } (shiftReg .srl r) s

end Sys2Proof.Machine
end

