-- ==== Sys2Proof/Machine/Control.lean ====
section
/-! DEFINITION. Jumps, calls, returns and the miscellaneous group (46_control_misc.md R454 to R477).
While a meaning runs, PC is already the address of the next instruction (10_state.md R38). -/

namespace Sys2Proof.Machine

/-- `CALL mn`: R454. -/
def execCallMn (mn : Word) (s : State) : Out :=
  perform {} (callTo (fun _ => mn)) s

/-- `DJNZ e`: R455. -/
def execDjnzE (e : Byte) (s : State) : Out :=
  perform { altd := true } (fun c s =>
    let t := s.main.b - 1
    let s := dst8 c .b t s
    .ok (if t != 0 then { s with pc := relTarget e s } else s)) s

/-- `JP (HL)`: R456. -/
def execJpAtHl (s : State) : Out :=
  perform {} (fun _ s => .ok { s with pc := s.hl }) s

/-- `JP (IX)`: R457. -/
def execJpAtIx (s : State) : Out :=
  perform {} (fun _ s => .ok { s with pc := s.ix }) s

/-- `JP (IY)`: R458. -/
def execJpAtIy (s : State) : Out :=
  perform {} (fun _ s => .ok { s with pc := s.iy }) s

/-- `JP f,mn`: R459. -/
def execJpFMn (f : Cond) (mn : Word) (s : State) : Out :=
  perform {} (jumpIf (fun s => condHolds s.main.f f) (fun _ => mn)) s

/-- `JP mn`: R460. -/
def execJpMn (mn : Word) (s : State) : Out :=
  perform {} (fun _ s => .ok { s with pc := mn }) s

/-- `JR cc,e`: R461. -/
def execJrCcE (cc : Cc) (e : Byte) (s : State) : Out :=
  perform {} (jumpIf (fun s => condHolds s.main.f (ccCond cc)) (relTarget e)) s

/-- `JR e`: R462. -/
def execJrE (e : Byte) (s : State) : Out :=
  perform {} (fun _ s => .ok { s with pc := relTarget e s }) s

/-- `LCALL x,mn`: R463. -/
def execLcallXMn (x : Byte) (mn : Word) (s : State) : Out :=
  perform {} (fun _ s => .ok { push16 s.pc (push8 s.xpc s) with xpc := x, pc := mn }) s

/-- `LJP x,mn`: R464. -/
def execLjpXMn (x : Byte) (mn : Word) (s : State) : Out :=
  perform {} (fun _ s => .ok { s with xpc := x, pc := mn }) s

/-- `LRET`: R465. -/
def execLret (s : State) : Out :=
  perform {} (fun _ s => do
    let (pc, s) ← pop16 s
    let (x, s) ← pop8 s
    .ok { s with pc := pc, xpc := x }) s

/-- `RET`: R466. -/
def execRet (s : State) : Out :=
  perform {} returnBody s

/-- `RET f`: R467. -/
def execRetF (f : Cond) (s : State) : Out :=
  perform {} (fun c s => if condHolds s.main.f f then returnBody c s else .ok s) s

/-- `RETI`: R468. -/
def execReti (s : State) : Out :=
  perform { priv := true } (fun _ s => returnFromInterrupt s) s

/-- `RST v`: R469. -/
def execRstV (v : BitVec 3) (s : State) : Out :=
  perform {} (callTo (restartTarget v)) s

/-- `CCF`: R470. -/
def execCcf (s : State) : Out :=
  perform { altd := true } (fun c s => .ok (setFlags c { c := !s.cf } s)) s

/-- `IPSET 0`: R471. -/
def execIpset0 (s : State) : Out :=
  perform { priv := true } (ipSet 0) s

/-- `IPSET 1`: R472. -/
def execIpset1 (s : State) : Out :=
  perform { priv := true } (ipSet 1) s

/-- `IPSET 2`: R473. -/
def execIpset2 (s : State) : Out :=
  perform { priv := true } (ipSet 2) s

/-- `IPSET 3`: R474. -/
def execIpset3 (s : State) : Out :=
  perform { priv := true } (ipSet 3) s

/-- `IPRES`: R475. -/
def execIpres (s : State) : Out :=
  perform { priv := true } (fun _ s => .ok { s with ip := popPriority s.ip }) s

/-- `NOP`: R476. -/
def execNop (s : State) : Out :=
  perform {} (fun _ s => .ok s) s

/-- `SCF`: R477. -/
def execScf (s : State) : Out :=
  perform { altd := true } (fun c s => .ok (setFlags c { c := true } s)) s

end Sys2Proof.Machine
end

