-- ==== Sys2Proof/Machine/LatchBlock.lean ====
section
/-! DEFINITION. ALTD, IOI and IOE, and the block moves, groups O and P (45_prefix_block.md R430 to R443).
While a meaning runs, PC is already the address of the next instruction (10_state.md R38). -/

namespace Sys2Proof.Machine

/-- `ALTD`: R430, R54. -/
def execAltd (s : State) : Out := .next { s with altd := true, hold := true }

/-- `IOI`: R432, R54. -/
def execIoi (s : State) : Out := selectIo .internal s

/-- `IOE`: R433, R54. -/
def execIoe (s : State) : Out := selectIo .external s

/-- `LDD`: R440. -/
def execLdd (s : State) : Out :=
  perform { io := true } (blockOnce (-1)) s

/-- `LDDR`: R441. -/
def execLddr (s : State) : Out :=
  perform { io := true } (fun c s => blockLoop (-1) (blockCount s.bc) c s) s

/-- `LDI`: R442. -/
def execLdi (s : State) : Out :=
  perform { io := true } (blockOnce 1) s

/-- `LDIR`: R443. -/
def execLdir (s : State) : Out :=
  perform { io := true } (fun c s => blockLoop 1 (blockCount s.bc) c s) s

end Sys2Proof.Machine
end

