-- ==== Sys2Proof/Machine/Load.lean ====
section
/-! DEFINITION. Load and store, groups A to E (40_load_store.md R142 to R192).
While a meaning runs, PC is already the address of the next instruction (10_state.md R38). -/

namespace Sys2Proof.Machine

/-- `LD IX,mn`: R142. -/
def execLdIxMn (mn : Word) (s : State) : Out :=
  perform {} (setWord .ix (fun _ => mn)) s

/-- `LD IY,mn`: R143. -/
def execLdIyMn (mn : Word) (s : State) : Out :=
  perform {} (setWord .iy (fun _ => mn)) s

/-- `LD dd,mn`: R144. -/
def execLdDdMn (dd : RegSs) (mn : Word) (s : State) : Out :=
  withAlternate (ssReg dd) (perform { altd := true } (setWord (ssReg dd) (fun _ => mn))) s

/-- `LD r,n`: R145. -/
def execLdRN (r : Reg8) (n : Byte) (s : State) : Out :=
  perform { altd := true } (setByte r (fun _ => n)) s

/-- `LD (mn),A`: R146. -/
def execLdAtMnA (mn : Word) (s : State) : Out :=
  perform { io := true } (storeByte (.mn mn) (fun s => s.main.a)) s

/-- `LD A,(mn)`: R147. -/
def execLdAAtMn (mn : Word) (s : State) : Out :=
  perform { altd := true, io := true } (loadByte .a (.mn mn)) s

/-- `LD (mn),HL`: R148. -/
def execLdAtMnHl (mn : Word) (s : State) : Out :=
  perform { io := true } (storeWord (.mn mn) (.pair .hl)) s

/-- `LD (mn),IX`: R149. -/
def execLdAtMnIx (mn : Word) (s : State) : Out :=
  perform { io := true } (storeWord (.mn mn) .ix) s

/-- `LD (mn),IY`: R150. -/
def execLdAtMnIy (mn : Word) (s : State) : Out :=
  perform { io := true } (storeWord (.mn mn) .iy) s

/-- `LD (mn),ss`: R151. -/
def execLdAtMnSs (mn : Word) (ss : RegSs) (s : State) : Out :=
  perform { io := true } (storeWord (.mn mn) (ssReg ss)) s

/-- `LD HL,(mn)`: R152. -/
def execLdHlAtMn (mn : Word) (s : State) : Out :=
  perform { altd := true, io := true } (loadWord (.pair .hl) (.mn mn)) s

/-- `LD IX,(mn)`: R153. -/
def execLdIxAtMn (mn : Word) (s : State) : Out :=
  perform { io := true } (loadWord .ix (.mn mn)) s

/-- `LD IY,(mn)`: R154. -/
def execLdIyAtMn (mn : Word) (s : State) : Out :=
  perform { io := true } (loadWord .iy (.mn mn)) s

/-- `LD dd,(mn)`: R155. -/
def execLdDdAtMn (dd : RegSs) (mn : Word) (s : State) : Out :=
  withAlternate (ssReg dd) (perform { altd := true, io := true } (loadWord (ssReg dd) (.mn mn))) s

/-- `LD (BC),A`: R156. -/
def execLdAtBcA (s : State) : Out :=
  perform { io := true } (storeByte .bc (fun s => s.main.a)) s

/-- `LD (DE),A`: R157. -/
def execLdAtDeA (s : State) : Out :=
  perform { io := true } (storeByte .de (fun s => s.main.a)) s

/-- `LD (HL),n`: R158. -/
def execLdAtHlN (n : Byte) (s : State) : Out :=
  perform { io := true } (storeByte .hl (fun _ => n)) s

/-- `LD (HL),r`: R159. -/
def execLdAtHlR (r : Reg8) (s : State) : Out :=
  perform { io := true, bug := true } (storeByte .hl (fun s => s.main.get r)) s

/-- `LD r,(HL)`: R160. -/
def execLdRAtHl (r : Reg8) (s : State) : Out :=
  perform { altd := true, io := true, bug := true } (loadByte r .hl) s

/-- `LD A,(BC)`: R161. -/
def execLdAAtBc (s : State) : Out :=
  perform { altd := true, io := true } (loadByte .a .bc) s

/-- `LD A,(DE)`: R162. -/
def execLdAAtDe (s : State) : Out :=
  perform { altd := true, io := true } (loadByte .a .de) s

/-- `LD (IX+d),n`: R163. -/
def execLdAtIxdN (d : Byte) (n : Byte) (s : State) : Out :=
  perform { io := true } (storeByte (.ixd d) (fun _ => n)) s

/-- `LD (IX+d),r`: R164. -/
def execLdAtIxdR (d : Byte) (r : Reg8) (s : State) : Out :=
  perform { io := true } (storeByte (.ixd d) (fun s => s.main.get r)) s

/-- `LD r,(IX+d)`: R165. -/
def execLdRAtIxd (r : Reg8) (d : Byte) (s : State) : Out :=
  perform { altd := true, io := true } (loadByte r (.ixd d)) s

/-- `LD (IY+d),n`: R166. -/
def execLdAtIydN (d : Byte) (n : Byte) (s : State) : Out :=
  perform { io := true } (storeByte (.iyd d) (fun _ => n)) s

/-- `LD (IY+d),r`: R167. -/
def execLdAtIydR (d : Byte) (r : Reg8) (s : State) : Out :=
  perform { io := true } (storeByte (.iyd d) (fun s => s.main.get r)) s

/-- `LD r,(IY+d)`: R168. -/
def execLdRAtIyd (r : Reg8) (d : Byte) (s : State) : Out :=
  perform { altd := true, io := true } (loadByte r (.iyd d)) s

/-- `LD (HL+d),HL`: R169. -/
def execLdAtHldHl (d : Byte) (s : State) : Out :=
  perform { io := true } (storeWord (.hld d) (.pair .hl)) s

/-- `LD HL,(HL+d)`: R170. -/
def execLdHlAtHld (d : Byte) (s : State) : Out :=
  perform { altd := true, io := true } (loadWord (.pair .hl) (.hld d)) s

/-- `LD (SP+n),HL`: R171. -/
def execLdAtSpnHl (n : Byte) (s : State) : Out :=
  perform {} (storeFrame n (.pair .hl)) s

/-- `LD (SP+n),IX`: R172. -/
def execLdAtSpnIx (n : Byte) (s : State) : Out :=
  perform {} (storeFrame n .ix) s

/-- `LD (SP+n),IY`: R173. -/
def execLdAtSpnIy (n : Byte) (s : State) : Out :=
  perform {} (storeFrame n .iy) s

/-- `LD HL,(SP+n)`: R174. -/
def execLdHlAtSpn (n : Byte) (s : State) : Out :=
  perform { altd := true } (loadFrame (.pair .hl) n) s

/-- `LD IX,(SP+n)`: R175. -/
def execLdIxAtSpn (n : Byte) (s : State) : Out :=
  perform {} (loadFrame .ix n) s

/-- `LD IY,(SP+n)`: R176. -/
def execLdIyAtSpn (n : Byte) (s : State) : Out :=
  perform {} (loadFrame .iy n) s

/-- `LD (IX+d),HL`: R177. -/
def execLdAtIxdHl (d : Byte) (s : State) : Out :=
  perform { io := true } (storeWord (.ixd d) (.pair .hl)) s

/-- `LD HL,(IX+d)`: R178. -/
def execLdHlAtIxd (d : Byte) (s : State) : Out :=
  perform { altd := true, io := true } (loadWord (.pair .hl) (.ixd d)) s

/-- `LD (IY+d),HL`: R179. -/
def execLdAtIydHl (d : Byte) (s : State) : Out :=
  perform { io := true } (storeWord (.iyd d) (.pair .hl)) s

/-- `LD HL,(IY+d)`: R180. -/
def execLdHlAtIyd (d : Byte) (s : State) : Out :=
  perform { altd := true, io := true } (loadWord (.pair .hl) (.iyd d)) s

/-- `LDP (HL),HL`: R181. -/
def execLdpAtHlHl (s : State) : Out :=
  perform {} (storePhys (fun s => s.hl) (.pair .hl)) s

/-- `LDP (IX),HL`: R182. -/
def execLdpAtIxHl (s : State) : Out :=
  perform {} (storePhys (fun s => s.ix) (.pair .hl)) s

/-- `LDP (IY),HL`: R183. -/
def execLdpAtIyHl (s : State) : Out :=
  perform {} (storePhys (fun s => s.iy) (.pair .hl)) s

/-- `LDP (mn),HL`: R184. -/
def execLdpAtMnHl (mn : Word) (s : State) : Out :=
  perform {} (storePhys (fun _ => mn) (.pair .hl)) s

/-- `LDP (mn),IX`: R185. -/
def execLdpAtMnIx (mn : Word) (s : State) : Out :=
  perform {} (storePhys (fun _ => mn) .ix) s

/-- `LDP (mn),IY`: R186. -/
def execLdpAtMnIy (mn : Word) (s : State) : Out :=
  perform {} (storePhys (fun _ => mn) .iy) s

/-- `LDP HL,(HL)`: R187. -/
def execLdpHlAtHl (s : State) : Out :=
  perform {} (loadPhys (.pair .hl) (fun s => s.hl)) s

/-- `LDP HL,(IX)`: R188. -/
def execLdpHlAtIx (s : State) : Out :=
  perform {} (loadPhys (.pair .hl) (fun s => s.ix)) s

/-- `LDP HL,(IY)`: R189. -/
def execLdpHlAtIy (s : State) : Out :=
  perform {} (loadPhys (.pair .hl) (fun s => s.iy)) s

/-- `LDP HL,(mn)`: R190. -/
def execLdpHlAtMn (mn : Word) (s : State) : Out :=
  perform {} (loadPhys (.pair .hl) (fun _ => mn)) s

/-- `LDP IX,(mn)`: R191. -/
def execLdpIxAtMn (mn : Word) (s : State) : Out :=
  perform {} (loadPhys .ix (fun _ => mn)) s

/-- `LDP IY,(mn)`: R192. -/
def execLdpIyAtMn (mn : Word) (s : State) : Out :=
  perform {} (loadPhys .iy (fun _ => mn)) s

end Sys2Proof.Machine
end

