-- ==== Sys2Proof/Machine/Move.lean ====
section
/-! DEFINITION. Register moves, exchanges and the stack, groups F to H (41_move_exchange_stack.md R202 to R232).
While a meaning runs, PC is already the address of the next instruction (10_state.md R38). -/

namespace Sys2Proof.Machine

/-- `LD A,EIR`: R202. -/
def execLdAEir (s : State) : Out :=
  perform { altd := true } (fun c s => .ok (setFlags c (moveFlags s.eir) (dst8 c .a s.eir s))) s

/-- `LD A,IIR`: R203. -/
def execLdAIir (s : State) : Out :=
  perform { altd := true } (fun c s => .ok (setFlags c (moveFlags s.iir) (dst8 c .a s.iir s))) s

/-- `LD A,XPC`: R204. -/
def execLdAXpc (s : State) : Out :=
  perform { altd := true, priv := true } (setByte .a (fun s => s.xpc)) s

/-- `LD dd',BC`: R205. -/
def execLdAltDdBc (da : RegAlt) (s : State) : Out :=
  perform {} (fun _ s => .ok (s.mapBank true (·.setPair (altPair da) s.bc))) s

/-- `LD dd',DE`: R206. -/
def execLdAltDdDe (da : RegAlt) (s : State) : Out :=
  perform {} (fun _ s => .ok (s.mapBank true (·.setPair (altPair da) s.de))) s

/-- `LD EIR,A`: R207. -/
def execLdEirA (s : State) : Out :=
  perform {} (fun _ s => .ok { s with eir := s.main.a }) s

/-- `LD IIR,A`: R208. -/
def execLdIirA (s : State) : Out :=
  perform {} (fun _ s => .ok { s with iir := s.main.a }) s

/-- `LD HL,IX`: R209. -/
def execLdHlIx (s : State) : Out :=
  perform { altd := true } (setWord (.pair .hl) (fun s => s.ix)) s

/-- `LD HL,IY`: R210. -/
def execLdHlIy (s : State) : Out :=
  perform { altd := true } (setWord (.pair .hl) (fun s => s.iy)) s

/-- `LD IX,HL`: R211. -/
def execLdIxHl (s : State) : Out :=
  perform {} (setWord .ix (fun s => s.hl)) s

/-- `LD IY,HL`: R212. -/
def execLdIyHl (s : State) : Out :=
  perform {} (setWord .iy (fun s => s.hl)) s

/-- `LD SP,HL`: R213. -/
def execLdSpHl (s : State) : Out :=
  perform { priv := true } (setWord .sp (fun s => s.hl)) s

/-- `LD SP,IX`: R214. -/
def execLdSpIx (s : State) : Out :=
  perform { priv := true } (setWord .sp (fun s => s.ix)) s

/-- `LD SP,IY`: R215. -/
def execLdSpIy (s : State) : Out :=
  perform { priv := true } (setWord .sp (fun s => s.iy)) s

/-- `LD XPC,A`: R216. -/
def execLdXpcA (s : State) : Out :=
  perform { priv := true } (fun _ s => .ok { s with xpc := s.main.a }) s

/-- `LD r,g`: R217. -/
def execLdRG (r : Reg8) (g : Reg8) (s : State) : Out :=
  perform { altd := true } (setByte r (fun s => s.main.get g)) s

/-- `EX (SP),HL`: R218. -/
def execExAtSpHl (s : State) : Out :=
  perform { altd := true } (exchangeTop (.pair .hl)) s

/-- `EX (SP),IX`: R219. -/
def execExAtSpIx (s : State) : Out :=
  perform {} (exchangeTop .ix) s

/-- `EX (SP),IY`: R220. -/
def execExAtSpIy (s : State) : Out :=
  perform {} (exchangeTop .iy) s

/-- `EX AF,AF'`: R221. -/
def execExAfAltAf (s : State) : Out :=
  perform {} (fun _ s =>
    .ok { s with
      main := s.main.setPair .af (s.alt.getPair .af),
      alt := s.alt.setPair .af (s.main.getPair .af) }) s

/-- `EX DE,HL`: R222. -/
def execExDeHl (s : State) : Out :=
  perform { altd := true } (fun c s => .ok (
    if c.alt then
      { s with
        main := s.main.setPair .de (s.alt.getPair .hl),
        alt := s.alt.setPair .hl (s.main.getPair .de) }
    else
      { s with main := (s.main.setPair .de (s.main.getPair .hl)).setPair .hl (s.main.getPair .de) })) s

/-- `EX DE',HL`: R223. -/
def execExAltDeHl (s : State) : Out :=
  perform { altd := true } (fun c s => .ok (
    if c.alt then
      { s with alt := (s.alt.setPair .de (s.alt.getPair .hl)).setPair .hl (s.alt.getPair .de) }
    else
      { s with
        main := s.main.setPair .hl (s.alt.getPair .de),
        alt := s.alt.setPair .de (s.main.getPair .hl) })) s

/-- `EXX`: R224. -/
def execExx (s : State) : Out :=
  perform {} (fun _ s =>
    .ok { s with
      main := { s.alt with a := s.main.a, f := s.main.f },
      alt := { s.main with a := s.alt.a, f := s.alt.f } }) s

/-- `POP IP`: R225. -/
def execPopIp (s : State) : Out :=
  perform { priv := true } (fun _ s => do
    let (ip, s) ← pop8 s
    .ok { s with ip := ip }) s

/-- `POP IX`: R226. -/
def execPopIx (s : State) : Out :=
  perform {} (popWord .ix) s

/-- `POP IY`: R227. -/
def execPopIy (s : State) : Out :=
  perform {} (popWord .iy) s

/-- `POP zz`: R228. -/
def execPopZz (zz : RegZz) (s : State) : Out :=
  perform { altd := true } (popWord (.pair zz)) s

/-- `PUSH IP`: R229. -/
def execPushIp (s : State) : Out :=
  perform {} (fun _ s => .ok (push8 s.ip s)) s

/-- `PUSH IX`: R230. -/
def execPushIx (s : State) : Out :=
  perform {} (pushWord .ix) s

/-- `PUSH IY`: R231. -/
def execPushIy (s : State) : Out :=
  perform {} (pushWord .iy) s

/-- `PUSH zz`: R232. -/
def execPushZz (zz : RegZz) (s : State) : Out :=
  perform {} (pushWord (.pair zz)) s

end Sys2Proof.Machine
end

