-- ==== Sys2Proof/Machine/Dispatch.lean ====
section
/-! DEFINITION. The meaning of every instruction: one arm for each constructor. -/

namespace Sys2Proof.Machine

def exec (i : Instr) (s : State) : Host.Outcome State Fault Refusal :=
  match i with
  | .adcAAtHl => Sys2Proof.Machine.execAdcAAtHl s
  | .adcAAtIxd d => Sys2Proof.Machine.execAdcAAtIxd d s
  | .adcAAtIyd d => Sys2Proof.Machine.execAdcAAtIyd d s
  | .adcAN n => Sys2Proof.Machine.execAdcAN n s
  | .adcAR r => Sys2Proof.Machine.execAdcAR r s
  | .addAAtHl => Sys2Proof.Machine.execAddAAtHl s
  | .addAAtIxd d => Sys2Proof.Machine.execAddAAtIxd d s
  | .addAAtIyd d => Sys2Proof.Machine.execAddAAtIyd d s
  | .addAN n => Sys2Proof.Machine.execAddAN n s
  | .addAR r => Sys2Proof.Machine.execAddAR r s
  | .andAtHl => Sys2Proof.Machine.execAndAtHl s
  | .andAtIxd d => Sys2Proof.Machine.execAndAtIxd d s
  | .andAtIyd d => Sys2Proof.Machine.execAndAtIyd d s
  | .andN n => Sys2Proof.Machine.execAndN n s
  | .andR r => Sys2Proof.Machine.execAndR r s
  | .cpAtHl => Sys2Proof.Machine.execCpAtHl s
  | .cpAtIxd d => Sys2Proof.Machine.execCpAtIxd d s
  | .cpAtIyd d => Sys2Proof.Machine.execCpAtIyd d s
  | .cpN n => Sys2Proof.Machine.execCpN n s
  | .cpR r => Sys2Proof.Machine.execCpR r s
  | .orAtHl => Sys2Proof.Machine.execOrAtHl s
  | .orAtIxd d => Sys2Proof.Machine.execOrAtIxd d s
  | .orAtIyd d => Sys2Proof.Machine.execOrAtIyd d s
  | .orN n => Sys2Proof.Machine.execOrN n s
  | .orR r => Sys2Proof.Machine.execOrR r s
  | .sbcAAtHl => Sys2Proof.Machine.execSbcAAtHl s
  | .sbcAAtIxd d => Sys2Proof.Machine.execSbcAAtIxd d s
  | .sbcAAtIyd d => Sys2Proof.Machine.execSbcAAtIyd d s
  | .sbcAN n => Sys2Proof.Machine.execSbcAN n s
  | .sbcAR r => Sys2Proof.Machine.execSbcAR r s
  | .subAtHl => Sys2Proof.Machine.execSubAtHl s
  | .subAtIxd d => Sys2Proof.Machine.execSubAtIxd d s
  | .subAtIyd d => Sys2Proof.Machine.execSubAtIyd d s
  | .subN n => Sys2Proof.Machine.execSubN n s
  | .subR r => Sys2Proof.Machine.execSubR r s
  | .xorAtHl => Sys2Proof.Machine.execXorAtHl s
  | .xorAtIxd d => Sys2Proof.Machine.execXorAtIxd d s
  | .xorAtIyd d => Sys2Proof.Machine.execXorAtIyd d s
  | .xorN n => Sys2Proof.Machine.execXorN n s
  | .xorR r => Sys2Proof.Machine.execXorR r s
  | .neg => Sys2Proof.Machine.execNeg s
  | .decAtHl => Sys2Proof.Machine.execDecAtHl s
  | .decAtIxd d => Sys2Proof.Machine.execDecAtIxd d s
  | .decAtIyd d => Sys2Proof.Machine.execDecAtIyd d s
  | .decR r => Sys2Proof.Machine.execDecR r s
  | .incAtHl => Sys2Proof.Machine.execIncAtHl s
  | .incAtIxd d => Sys2Proof.Machine.execIncAtIxd d s
  | .incAtIyd d => Sys2Proof.Machine.execIncAtIyd d s
  | .incR r => Sys2Proof.Machine.execIncR r s
  | .cpl => Sys2Proof.Machine.execCpl s
  | .rla => Sys2Proof.Machine.execRla s
  | .rlca => Sys2Proof.Machine.execRlca s
  | .rra => Sys2Proof.Machine.execRra s
  | .rrca => Sys2Proof.Machine.execRrca s
  | .bitBAtHl b => Sys2Proof.Machine.execBitBAtHl b s
  | .bitBAtIxd b d => Sys2Proof.Machine.execBitBAtIxd b d s
  | .bitBAtIyd b d => Sys2Proof.Machine.execBitBAtIyd b d s
  | .bitBR b r => Sys2Proof.Machine.execBitBR b r s
  | .resBAtHl b => Sys2Proof.Machine.execResBAtHl b s
  | .resBAtIxd b d => Sys2Proof.Machine.execResBAtIxd b d s
  | .resBAtIyd b d => Sys2Proof.Machine.execResBAtIyd b d s
  | .resBR b r => Sys2Proof.Machine.execResBR b r s
  | .setBAtHl b => Sys2Proof.Machine.execSetBAtHl b s
  | .setBAtIxd b d => Sys2Proof.Machine.execSetBAtIxd b d s
  | .setBAtIyd b d => Sys2Proof.Machine.execSetBAtIyd b d s
  | .setBR b r => Sys2Proof.Machine.execSetBR b r s
  | .rlAtHl => Sys2Proof.Machine.execRlAtHl s
  | .rlAtIxd d => Sys2Proof.Machine.execRlAtIxd d s
  | .rlAtIyd d => Sys2Proof.Machine.execRlAtIyd d s
  | .rlR r => Sys2Proof.Machine.execRlR r s
  | .rlcAtHl => Sys2Proof.Machine.execRlcAtHl s
  | .rlcAtIxd d => Sys2Proof.Machine.execRlcAtIxd d s
  | .rlcAtIyd d => Sys2Proof.Machine.execRlcAtIyd d s
  | .rlcR r => Sys2Proof.Machine.execRlcR r s
  | .rrAtHl => Sys2Proof.Machine.execRrAtHl s
  | .rrAtIxd d => Sys2Proof.Machine.execRrAtIxd d s
  | .rrAtIyd d => Sys2Proof.Machine.execRrAtIyd d s
  | .rrR r => Sys2Proof.Machine.execRrR r s
  | .rrcAtHl => Sys2Proof.Machine.execRrcAtHl s
  | .rrcAtIxd d => Sys2Proof.Machine.execRrcAtIxd d s
  | .rrcAtIyd d => Sys2Proof.Machine.execRrcAtIyd d s
  | .rrcR r => Sys2Proof.Machine.execRrcR r s
  | .slaAtHl => Sys2Proof.Machine.execSlaAtHl s
  | .slaAtIxd d => Sys2Proof.Machine.execSlaAtIxd d s
  | .slaAtIyd d => Sys2Proof.Machine.execSlaAtIyd d s
  | .slaR r => Sys2Proof.Machine.execSlaR r s
  | .sraAtHl => Sys2Proof.Machine.execSraAtHl s
  | .sraAtIxd d => Sys2Proof.Machine.execSraAtIxd d s
  | .sraAtIyd d => Sys2Proof.Machine.execSraAtIyd d s
  | .sraR r => Sys2Proof.Machine.execSraR r s
  | .srlAtHl => Sys2Proof.Machine.execSrlAtHl s
  | .srlAtIxd d => Sys2Proof.Machine.execSrlAtIxd d s
  | .srlAtIyd d => Sys2Proof.Machine.execSrlAtIyd d s
  | .srlR r => Sys2Proof.Machine.execSrlR r s
  | .adcHlSs ss => Sys2Proof.Machine.execAdcHlSs ss s
  | .addHlSs ss => Sys2Proof.Machine.execAddHlSs ss s
  | .addIxXx xx => Sys2Proof.Machine.execAddIxXx xx s
  | .addIyYy yy => Sys2Proof.Machine.execAddIyYy yy s
  | .addSpD d => Sys2Proof.Machine.execAddSpD d s
  | .andHlDe => Sys2Proof.Machine.execAndHlDe s
  | .andIxDe => Sys2Proof.Machine.execAndIxDe s
  | .andIyDe => Sys2Proof.Machine.execAndIyDe s
  | .orHlDe => Sys2Proof.Machine.execOrHlDe s
  | .orIxDe => Sys2Proof.Machine.execOrIxDe s
  | .orIyDe => Sys2Proof.Machine.execOrIyDe s
  | .boolHl => Sys2Proof.Machine.execBoolHl s
  | .boolIx => Sys2Proof.Machine.execBoolIx s
  | .boolIy => Sys2Proof.Machine.execBoolIy s
  | .decIx => Sys2Proof.Machine.execDecIx s
  | .decIy => Sys2Proof.Machine.execDecIy s
  | .decSs ss => Sys2Proof.Machine.execDecSs ss s
  | .incIx => Sys2Proof.Machine.execIncIx s
  | .incIy => Sys2Proof.Machine.execIncIy s
  | .incSs ss => Sys2Proof.Machine.execIncSs ss s
  | .mul => Sys2Proof.Machine.execMul s
  | .rlDe => Sys2Proof.Machine.execRlDe s
  | .rrDe => Sys2Proof.Machine.execRrDe s
  | .rrHl => Sys2Proof.Machine.execRrHl s
  | .rrIx => Sys2Proof.Machine.execRrIx s
  | .rrIy => Sys2Proof.Machine.execRrIy s
  | .sbcHlSs ss => Sys2Proof.Machine.execSbcHlSs ss s
  | .ldIxMn mn => Sys2Proof.Machine.execLdIxMn mn s
  | .ldIyMn mn => Sys2Proof.Machine.execLdIyMn mn s
  | .ldDdMn dd mn => Sys2Proof.Machine.execLdDdMn dd mn s
  | .ldRN r n => Sys2Proof.Machine.execLdRN r n s
  | .ldAtMnA mn => Sys2Proof.Machine.execLdAtMnA mn s
  | .ldAAtMn mn => Sys2Proof.Machine.execLdAAtMn mn s
  | .ldAtMnHl mn => Sys2Proof.Machine.execLdAtMnHl mn s
  | .ldAtMnIx mn => Sys2Proof.Machine.execLdAtMnIx mn s
  | .ldAtMnIy mn => Sys2Proof.Machine.execLdAtMnIy mn s
  | .ldAtMnSs mn ss => Sys2Proof.Machine.execLdAtMnSs mn ss s
  | .ldHlAtMn mn => Sys2Proof.Machine.execLdHlAtMn mn s
  | .ldIxAtMn mn => Sys2Proof.Machine.execLdIxAtMn mn s
  | .ldIyAtMn mn => Sys2Proof.Machine.execLdIyAtMn mn s
  | .ldDdAtMn dd mn => Sys2Proof.Machine.execLdDdAtMn dd mn s
  | .ldAtBcA => Sys2Proof.Machine.execLdAtBcA s
  | .ldAtDeA => Sys2Proof.Machine.execLdAtDeA s
  | .ldAtHlN n => Sys2Proof.Machine.execLdAtHlN n s
  | .ldAtHlR r => Sys2Proof.Machine.execLdAtHlR r s
  | .ldRAtHl r => Sys2Proof.Machine.execLdRAtHl r s
  | .ldAAtBc => Sys2Proof.Machine.execLdAAtBc s
  | .ldAAtDe => Sys2Proof.Machine.execLdAAtDe s
  | .ldAtIxdN d n => Sys2Proof.Machine.execLdAtIxdN d n s
  | .ldAtIxdR d r => Sys2Proof.Machine.execLdAtIxdR d r s
  | .ldRAtIxd r d => Sys2Proof.Machine.execLdRAtIxd r d s
  | .ldAtIydN d n => Sys2Proof.Machine.execLdAtIydN d n s
  | .ldAtIydR d r => Sys2Proof.Machine.execLdAtIydR d r s
  | .ldRAtIyd r d => Sys2Proof.Machine.execLdRAtIyd r d s
  | .ldAtHldHl d => Sys2Proof.Machine.execLdAtHldHl d s
  | .ldHlAtHld d => Sys2Proof.Machine.execLdHlAtHld d s
  | .ldAtSpnHl n => Sys2Proof.Machine.execLdAtSpnHl n s
  | .ldAtSpnIx n => Sys2Proof.Machine.execLdAtSpnIx n s
  | .ldAtSpnIy n => Sys2Proof.Machine.execLdAtSpnIy n s
  | .ldHlAtSpn n => Sys2Proof.Machine.execLdHlAtSpn n s
  | .ldIxAtSpn n => Sys2Proof.Machine.execLdIxAtSpn n s
  | .ldIyAtSpn n => Sys2Proof.Machine.execLdIyAtSpn n s
  | .ldAtIxdHl d => Sys2Proof.Machine.execLdAtIxdHl d s
  | .ldHlAtIxd d => Sys2Proof.Machine.execLdHlAtIxd d s
  | .ldAtIydHl d => Sys2Proof.Machine.execLdAtIydHl d s
  | .ldHlAtIyd d => Sys2Proof.Machine.execLdHlAtIyd d s
  | .ldpAtHlHl => Sys2Proof.Machine.execLdpAtHlHl s
  | .ldpAtIxHl => Sys2Proof.Machine.execLdpAtIxHl s
  | .ldpAtIyHl => Sys2Proof.Machine.execLdpAtIyHl s
  | .ldpAtMnHl mn => Sys2Proof.Machine.execLdpAtMnHl mn s
  | .ldpAtMnIx mn => Sys2Proof.Machine.execLdpAtMnIx mn s
  | .ldpAtMnIy mn => Sys2Proof.Machine.execLdpAtMnIy mn s
  | .ldpHlAtHl => Sys2Proof.Machine.execLdpHlAtHl s
  | .ldpHlAtIx => Sys2Proof.Machine.execLdpHlAtIx s
  | .ldpHlAtIy => Sys2Proof.Machine.execLdpHlAtIy s
  | .ldpHlAtMn mn => Sys2Proof.Machine.execLdpHlAtMn mn s
  | .ldpIxAtMn mn => Sys2Proof.Machine.execLdpIxAtMn mn s
  | .ldpIyAtMn mn => Sys2Proof.Machine.execLdpIyAtMn mn s
  | .ldAEir => Sys2Proof.Machine.execLdAEir s
  | .ldAIir => Sys2Proof.Machine.execLdAIir s
  | .ldAXpc => Sys2Proof.Machine.execLdAXpc s
  | .ldAltDdBc da => Sys2Proof.Machine.execLdAltDdBc da s
  | .ldAltDdDe da => Sys2Proof.Machine.execLdAltDdDe da s
  | .ldEirA => Sys2Proof.Machine.execLdEirA s
  | .ldIirA => Sys2Proof.Machine.execLdIirA s
  | .ldHlIx => Sys2Proof.Machine.execLdHlIx s
  | .ldHlIy => Sys2Proof.Machine.execLdHlIy s
  | .ldIxHl => Sys2Proof.Machine.execLdIxHl s
  | .ldIyHl => Sys2Proof.Machine.execLdIyHl s
  | .ldSpHl => Sys2Proof.Machine.execLdSpHl s
  | .ldSpIx => Sys2Proof.Machine.execLdSpIx s
  | .ldSpIy => Sys2Proof.Machine.execLdSpIy s
  | .ldXpcA => Sys2Proof.Machine.execLdXpcA s
  | .ldRG r g => Sys2Proof.Machine.execLdRG r g s
  | .exAtSpHl => Sys2Proof.Machine.execExAtSpHl s
  | .exAtSpIx => Sys2Proof.Machine.execExAtSpIx s
  | .exAtSpIy => Sys2Proof.Machine.execExAtSpIy s
  | .exAfAltAf => Sys2Proof.Machine.execExAfAltAf s
  | .exDeHl => Sys2Proof.Machine.execExDeHl s
  | .exAltDeHl => Sys2Proof.Machine.execExAltDeHl s
  | .exx => Sys2Proof.Machine.execExx s
  | .popIp => Sys2Proof.Machine.execPopIp s
  | .popIx => Sys2Proof.Machine.execPopIx s
  | .popIy => Sys2Proof.Machine.execPopIy s
  | .popZz zz => Sys2Proof.Machine.execPopZz zz s
  | .pushIp => Sys2Proof.Machine.execPushIp s
  | .pushIx => Sys2Proof.Machine.execPushIx s
  | .pushIy => Sys2Proof.Machine.execPushIy s
  | .pushZz zz => Sys2Proof.Machine.execPushZz zz s
  | .altd => Sys2Proof.Machine.execAltd s
  | .ioi => Sys2Proof.Machine.execIoi s
  | .ioe => Sys2Proof.Machine.execIoe s
  | .ldd => Sys2Proof.Machine.execLdd s
  | .lddr => Sys2Proof.Machine.execLddr s
  | .ldi => Sys2Proof.Machine.execLdi s
  | .ldir => Sys2Proof.Machine.execLdir s
  | .callMn mn => Sys2Proof.Machine.execCallMn mn s
  | .djnzE e => Sys2Proof.Machine.execDjnzE e s
  | .jpAtHl => Sys2Proof.Machine.execJpAtHl s
  | .jpAtIx => Sys2Proof.Machine.execJpAtIx s
  | .jpAtIy => Sys2Proof.Machine.execJpAtIy s
  | .jpFMn f mn => Sys2Proof.Machine.execJpFMn f mn s
  | .jpMn mn => Sys2Proof.Machine.execJpMn mn s
  | .jrCcE cc e => Sys2Proof.Machine.execJrCcE cc e s
  | .jrE e => Sys2Proof.Machine.execJrE e s
  | .lcallXMn x mn => Sys2Proof.Machine.execLcallXMn x mn s
  | .ljpXMn x mn => Sys2Proof.Machine.execLjpXMn x mn s
  | .lret => Sys2Proof.Machine.execLret s
  | .ret => Sys2Proof.Machine.execRet s
  | .retF f => Sys2Proof.Machine.execRetF f s
  | .reti => Sys2Proof.Machine.execReti s
  | .rstV v => Sys2Proof.Machine.execRstV v s
  | .ccf => Sys2Proof.Machine.execCcf s
  | .ipset0 => Sys2Proof.Machine.execIpset0 s
  | .ipset1 => Sys2Proof.Machine.execIpset1 s
  | .ipset2 => Sys2Proof.Machine.execIpset2 s
  | .ipset3 => Sys2Proof.Machine.execIpset3 s
  | .ipres => Sys2Proof.Machine.execIpres s
  | .nop => Sys2Proof.Machine.execNop s
  | .scf => Sys2Proof.Machine.execScf s

end Sys2Proof.Machine
end

