-- ==== Sys2Proof/WellFormed.lean ====
section
/-! DEFINITION. Which instructions of the syntax exist. -/

namespace Sys2Proof

/-- The five codes of the field `v` that are restarts: the other three patterns are LJP, LCALL and MUL
(30_encoding.md R116). -/
def restartCode (v : BitVec 3) : Bool := v ∈ [0b010#3, 0b011#3, 0b100#3, 0b101#3, 0b111#3]

/-- An instruction exists: every operand has a value that its row of spec/opcode_table.json admits. Only `v` has
values that do not select their row (30_encoding.md R101, "only"). -/
def Instr.wellFormed : Instr → Bool
  | .rstV v => restartCode v
  | _ => true

end Sys2Proof
end

