-- ==== Sys2Proof/Decode.lean ====
section
/-! DEFINITION. The decoder, total on any bytes, and after it the encoder. The decoder follows the opcode maps of
30_encoding.md R102 to R126 by the fields of the opcode byte; the encoder follows the bit patterns of
spec/opcode_table.json. -/

namespace Sys2Proof

/-- What the bytes at an address are: an instruction and its length in bytes, a sequence that no row matches
(30_encoding.md R128), or too few bytes to tell. -/
inductive Decoded where
  | ok (i : Instr) (len : Nat)
  | undefined
  | truncated
deriving DecidableEq, Repr

/-- What an opcode byte selects: an instruction, or an instruction that still needs its operand bytes
(the formats of 30_encoding.md R101), or nothing. -/
inductive Form where
  | plain (i : Instr)
  | byte (f : Byte → Instr)
  | byteByte (f : Byte → Byte → Instr)
  | word (f : Word → Instr)
  | wordByte (f : Word → Byte → Instr)
  | undefined

/-- Operand bytes after an opcode that ends at byte `len`: a 16-bit constant is stored low byte first, and `x`
follows it (30_encoding.md R117 to R120). -/
def Form.read (len : Nat) : Form → List Byte → Decoded
  | .plain i, _ => .ok i len
  | .byte f, b :: _ => .ok (f b) (len + 1)
  | .byteByte f, b :: b' :: _ => .ok (f b b') (len + 2)
  | .word f, n :: m :: _ => .ok (f (pair m n)) (len + 2)
  | .wordByte f, n :: m :: x :: _ => .ok (f (pair m n) x) (len + 3)
  | .undefined, _ => .undefined
  | _, _ => .truncated

/-- Bits 7:6 of an opcode byte. -/
def opX (op : Byte) : Nat := (op.extractLsb' 6 2).toNat

/-- Bits 5:3 of an opcode byte: a destination register, bit number, condition or restart field. -/
def opY (op : Byte) : BitVec 3 := op.extractLsb' 3 3

/-- Bits 2:0 of an opcode byte: a source register field. -/
def opZ (op : Byte) : BitVec 3 := op.extractLsb' 0 3

/-- Bits 5:4 of an opcode byte: a word register field. -/
def opP (op : Byte) : BitVec 2 := op.extractLsb' 4 2

/-- Bits 4:3 of an opcode byte: the field `cc`. -/
def opCc (op : Byte) : BitVec 2 := op.extractLsb' 3 2

/-- 30_encoding.md R108; `110` is the memory form, not a register. -/
def reg8? (c : BitVec 3) : Option Reg8 :=
  match c.toNat with
  | 0 => some .b | 1 => some .c | 2 => some .d | 3 => some .e
  | 4 => some .h | 5 => some .l | 6 => none | _ => some .a

/-- 30_encoding.md R109. -/
def regSs (c : BitVec 2) : RegSs :=
  match c.toNat with | 0 => .bc | 1 => .de | 2 => .hl | _ => .sp

/-- 30_encoding.md R110. -/
def regZz (c : BitVec 2) : RegZz :=
  match c.toNat with | 0 => .bc | 1 => .de | 2 => .hl | _ => .af

/-- 30_encoding.md R111. -/
def regXx (c : BitVec 2) : RegXx :=
  match c.toNat with | 0 => .bc | 1 => .de | 2 => .ix | _ => .sp

/-- 30_encoding.md R112. -/
def regYy (c : BitVec 2) : RegYy :=
  match c.toNat with | 0 => .bc | 1 => .de | 2 => .iy | _ => .sp

/-- 30_encoding.md R113; code `11` is not defined. -/
def regAlt? (c : BitVec 2) : Option RegAlt :=
  match c.toNat with | 0 => some .bc | 1 => some .de | 2 => some .hl | _ => none

/-- 30_encoding.md R115. -/
def cc (c : BitVec 2) : Cc :=
  match c.toNat with | 0 => .nz | 1 => .z | 2 => .nc | _ => .c

/-- 30_encoding.md R115. -/
def cond (c : BitVec 3) : Cond :=
  match c.toNat with
  | 0 => .nz | 1 => .z | 2 => .nc | 3 => .c | 4 => .lz | 5 => .lo | 6 => .p | _ => .m

/-- A byte register form, or the memory form where the field is `110` (30_encoding.md R108). -/
def regOr (c : BitVec 3) (f : Reg8 → Form) (mem : Form) : Form :=
  match reg8? c with
  | some r => f r
  | none => mem

/-- `10 ooo rrr`: the eight accumulator operations on a register or on (HL) (43_arith8.md R300). -/
def aluForm (o z : BitVec 3) : Form :=
  match o.toNat with
  | 0 => regOr z (fun r => .plain (.addAR r)) (.plain .addAAtHl)
  | 1 => regOr z (fun r => .plain (.adcAR r)) (.plain .adcAAtHl)
  | 2 => regOr z (fun r => .plain (.subR r)) (.plain .subAtHl)
  | 3 => regOr z (fun r => .plain (.sbcAR r)) (.plain .sbcAAtHl)
  | 4 => regOr z (fun r => .plain (.andR r)) (.plain .andAtHl)
  | 5 => regOr z (fun r => .plain (.xorR r)) (.plain .xorAtHl)
  | 6 => regOr z (fun r => .plain (.orR r)) (.plain .orAtHl)
  | _ => regOr z (fun r => .plain (.cpR r)) (.plain .cpAtHl)

/-- `11 ooo 110 n` (43_arith8.md R300). -/
def aluImmForm (o : BitVec 3) : Form :=
  match o.toNat with
  | 0 => .byte .addAN | 1 => .byte .adcAN | 2 => .byte .subN | 3 => .byte .sbcAN
  | 4 => .byte .andN | 5 => .byte .xorN | 6 => .byte .orN | _ => .byte .cpN

/-- `DD 10 ooo 110 d` (43_arith8.md R300). -/
def aluIxForm (o : BitVec 3) : Form :=
  match o.toNat with
  | 0 => .byte .addAAtIxd | 1 => .byte .adcAAtIxd | 2 => .byte .subAtIxd | 3 => .byte .sbcAAtIxd
  | 4 => .byte .andAtIxd | 5 => .byte .xorAtIxd | 6 => .byte .orAtIxd | _ => .byte .cpAtIxd

/-- `FD 10 ooo 110 d` (43_arith8.md R300). -/
def aluIyForm (o : BitVec 3) : Form :=
  match o.toNat with
  | 0 => .byte .addAAtIyd | 1 => .byte .adcAAtIyd | 2 => .byte .subAtIyd | 3 => .byte .sbcAAtIyd
  | 4 => .byte .andAtIyd | 5 => .byte .xorAtIyd | 6 => .byte .orAtIyd | _ => .byte .cpAtIyd

/-- Rows 0 to 3 of the one-byte page (30_encoding.md R122), by bits 2:0. -/
def mainForm0 (op : Byte) : Form :=
  let y := opY op
  let p := opP op
  let odd := op.getLsbD 3
  match (opZ op).toNat with
  | 0 =>
    match y.toNat with
    | 0 => .plain .nop
    | 1 => .plain .exAfAltAf
    | 2 => .byte .djnzE
    | 3 => .byte .jrE
    | _ => .byte (.jrCcE (cc (opCc op)))
  | 1 => if odd then .plain (.addHlSs (regSs p)) else .word (.ldDdMn (regSs p))
  | 2 =>
    match y.toNat with
    | 0 => .plain .ldAtBcA
    | 1 => .plain .ldAAtBc
    | 2 => .plain .ldAtDeA
    | 3 => .plain .ldAAtDe
    | 4 => .word .ldAtMnHl
    | 5 => .word .ldHlAtMn
    | 6 => .word .ldAtMnA
    | _ => .word .ldAAtMn
  | 3 => if odd then .plain (.decSs (regSs p)) else .plain (.incSs (regSs p))
  | 4 => regOr y (fun r => .plain (.incR r)) (.plain .incAtHl)
  | 5 => regOr y (fun r => .plain (.decR r)) (.plain .decAtHl)
  | 6 => regOr y (fun r => .byte (.ldRN r)) (.byte .ldAtHlN)
  | _ =>
    match y.toNat with
    | 0 => .plain .rlca
    | 1 => .plain .rrca
    | 2 => .plain .rla
    | 3 => .plain .rra
    | 4 => .byte .addSpD
    | 5 => .plain .cpl
    | 6 => .plain .scf
    | _ => .plain .ccf

/-- Rows 4 to 7 of the one-byte page: LD r,g with its `110` codes taken by the memory forms and by ALTD
(30_encoding.md R108, R122). -/
def mainForm1 (op : Byte) : Form :=
  regOr (opY op)
    (fun r => regOr (opZ op) (fun g => .plain (.ldRG r g)) (.plain (.ldRAtHl r)))
    (regOr (opZ op) (fun g => .plain (.ldAtHlR g)) (.plain .altd))

/-- Rows C to F of the one-byte page (30_encoding.md R122), by bits 2:0. The four page bytes are taken before. -/
def mainForm3 (op : Byte) : Form :=
  let y := opY op
  let p := opP op
  let odd := op.getLsbD 3
  match (opZ op).toNat with
  | 0 => .plain (.retF (cond y))
  | 1 =>
    if odd then
      match p.toNat with
      | 0 => .plain .ret
      | 1 => .plain .exx
      | 2 => .plain .jpAtHl
      | _ => .plain .ldSpHl
    else .plain (.popZz (regZz p))
  | 2 => .word (.jpFMn (cond y))
  | 3 =>
    match y.toNat with
    | 0 => .word .jpMn
    | 1 => .undefined
    | 2 => .plain .ioi
    | 3 => .plain .ioe
    | 4 => .plain .exAltDeHl
    | 5 => .plain .exDeHl
    | 6 => .plain .rlDe
    | _ => .plain .rrDe
  | 4 =>
    match y.toNat with
    | 0 => .byte .ldHlAtSpn
    | 1 => .plain .boolHl
    | 2 => .byte .ldAtSpnHl
    | 3 => .plain .andHlDe
    | 4 => .byte .ldHlAtIxd
    | 5 => .plain .orHlDe
    | 6 => .byte .ldAtIxdHl
    | _ => .plain .rrHl
  | 5 =>
    if odd then (if p.toNat = 0 then .word .callMn else .undefined)
    else .plain (.pushZz (regZz p))
  | 6 => aluImmForm y
  | _ =>
    match y.toNat with
    | 0 => .wordByte (fun mn x => .ljpXMn x mn)
    | 1 => .wordByte (fun mn x => .lcallXMn x mn)
    | 6 => .plain .mul
    | _ => .plain (.rstV y)

/-- The one-byte page (30_encoding.md R122). -/
def mainForm (op : Byte) : Form :=
  match opX op with
  | 0 => mainForm0 op
  | 1 => mainForm1 op
  | 2 => aluForm (opY op) (opZ op)
  | _ => mainForm3 op

/-- The shifts and rotates of the CB page: the register form and the (HL) form (30_encoding.md R103). -/
def shiftForm (o z : BitVec 3) : Form :=
  match o.toNat with
  | 0 => regOr z (fun r => .plain (.rlcR r)) (.plain .rlcAtHl)
  | 1 => regOr z (fun r => .plain (.rrcR r)) (.plain .rrcAtHl)
  | 2 => regOr z (fun r => .plain (.rlR r)) (.plain .rlAtHl)
  | 3 => regOr z (fun r => .plain (.rrR r)) (.plain .rrAtHl)
  | 4 => regOr z (fun r => .plain (.slaR r)) (.plain .slaAtHl)
  | 5 => regOr z (fun r => .plain (.sraR r)) (.plain .sraAtHl)
  | 6 => .undefined
  | _ => regOr z (fun r => .plain (.srlR r)) (.plain .srlAtHl)

/-- The CB page (30_encoding.md R103, R123). -/
def cbForm (op : Byte) : Form :=
  let b := opY op
  match opX op with
  | 0 => shiftForm b (opZ op)
  | 1 => regOr (opZ op) (fun r => .plain (.bitBR b r)) (.plain (.bitBAtHl b))
  | 2 => regOr (opZ op) (fun r => .plain (.resBR b r)) (.plain (.resBAtHl b))
  | _ => regOr (opZ op) (fun r => .plain (.setBR b r)) (.plain (.setBAtHl b))

/-- The form that a displacement `d` makes of the last byte after DD CB d; only `rrr = 110` is defined
(30_encoding.md R105, R126). -/
def ixCbForm (d op : Byte) : Form :=
  let b := opY op
  if opZ op ≠ 0b110#3 then .undefined
  else
    match opX op with
    | 0 =>
      match b.toNat with
      | 0 => .plain (.rlcAtIxd d)
      | 1 => .plain (.rrcAtIxd d)
      | 2 => .plain (.rlAtIxd d)
      | 3 => .plain (.rrAtIxd d)
      | 4 => .plain (.slaAtIxd d)
      | 5 => .plain (.sraAtIxd d)
      | 6 => .undefined
      | _ => .plain (.srlAtIxd d)
    | 1 => .plain (.bitBAtIxd b d)
    | 2 => .plain (.resBAtIxd b d)
    | _ => .plain (.setBAtIxd b d)

/-- The same after FD CB d (30_encoding.md R105, R126). -/
def iyCbForm (d op : Byte) : Form :=
  let b := opY op
  if opZ op ≠ 0b110#3 then .undefined
  else
    match opX op with
    | 0 =>
      match b.toNat with
      | 0 => .plain (.rlcAtIyd d)
      | 1 => .plain (.rrcAtIyd d)
      | 2 => .plain (.rlAtIyd d)
      | 3 => .plain (.rrAtIyd d)
      | 4 => .plain (.slaAtIyd d)
      | 5 => .plain (.sraAtIyd d)
      | 6 => .undefined
      | _ => .plain (.srlAtIyd d)
    | 1 => .plain (.bitBAtIyd b d)
    | 2 => .plain (.resBAtIyd b d)
    | _ => .plain (.setBAtIyd b d)

/-- Second bytes 40 to 7F of the ED page (30_encoding.md R124), by bits 2:0. -/
def edForm1 (op : Byte) : Form :=
  let y := opY op
  let p := opP op
  let odd := op.getLsbD 3
  match (opZ op).toNat with
  | 1 =>
    match regAlt? p with
    | some da => if odd then .plain (.ldAltDdBc da) else .plain (.ldAltDdDe da)
    | none => .undefined
  | 2 => if odd then .plain (.adcHlSs (regSs p)) else .plain (.sbcHlSs (regSs p))
  | 3 => if odd then .word (.ldDdAtMn (regSs p)) else .word (fun mn => .ldAtMnSs mn (regSs p))
  | 4 =>
    match y.toNat with
    | 0 => .plain .neg
    | 2 => .plain .exAtSpHl
    | 4 => .plain .ldpAtHlHl
    | 5 => .plain .ldpHlAtHl
    | _ => .undefined
  | 5 =>
    match y.toNat with
    | 0 => .plain .lret
    | 1 => .plain .reti
    | 3 => .plain .ipres
    | 4 => .word .ldpAtMnHl
    | 5 => .word .ldpHlAtMn
    | _ => .undefined
  | 6 =>
    match y.toNat with
    | 0 => .plain .ipset0
    | 1 => .plain .ipset2
    | 2 => .plain .ipset1
    | 3 => .plain .ipset3
    | 6 => .plain .pushIp
    | 7 => .plain .popIp
    | _ => .undefined
  | 7 =>
    match y.toNat with
    | 0 => .plain .ldEirA
    | 1 => .plain .ldIirA
    | 2 => .plain .ldAEir
    | 3 => .plain .ldAIir
    | 4 => .plain .ldXpcA
    | 6 => .plain .ldAXpc
    | _ => .undefined
  | _ => .undefined

/-- The ED page (30_encoding.md R104, R124). -/
def edForm (op : Byte) : Form :=
  match opX op with
  | 1 => edForm1 op
  | 2 =>
    if opZ op ≠ 0b000#3 then .undefined
    else
      match (opY op).toNat with
      | 4 => .plain .ldi
      | 5 => .plain .ldd
      | 6 => .plain .ldir
      | 7 => .plain .lddr
      | _ => .undefined
  | _ => .undefined

/-- The DD page but for its CB bytes (30_encoding.md R105, R125). -/
def ddForm (op : Byte) : Form :=
  let y := opY op
  let p := opP op
  let odd := op.getLsbD 3
  match opX op with
  | 0 =>
    match (opZ op).toNat with
    | 1 =>
      if odd then .plain (.addIxXx (regXx p))
      else if p.toNat = 2 then .word .ldIxMn else .undefined
    | 2 =>
      match y.toNat with
      | 4 => .word .ldAtMnIx
      | 5 => .word .ldIxAtMn
      | _ => .undefined
    | 3 =>
      match y.toNat with
      | 4 => .plain .incIx
      | 5 => .plain .decIx
      | _ => .undefined
    | 4 => if y.toNat = 6 then .byte .incAtIxd else .undefined
    | 5 => if y.toNat = 6 then .byte .decAtIxd else .undefined
    | 6 => if y.toNat = 6 then .byteByte .ldAtIxdN else .undefined
    | _ => .undefined
  | 1 =>
    match y.toNat with
    | 4 =>
      match (opZ op).toNat with
      | 4 => .plain .ldpAtIxHl
      | 5 => .word .ldpAtMnIx
      | 6 => .byte (.ldRAtIxd .h)
      | _ => .undefined
    | 5 =>
      match (opZ op).toNat with
      | 4 => .plain .ldpHlAtIx
      | 5 => .word .ldpIxAtMn
      | 6 => .byte (.ldRAtIxd .l)
      | _ => .undefined
    | 6 => regOr (opZ op) (fun r => .byte (fun d => .ldAtIxdR d r)) .undefined
    | 7 =>
      match (opZ op).toNat with
      | 4 => .plain .ldHlIx
      | 5 => .plain .ldIxHl
      | 6 => .byte (.ldRAtIxd .a)
      | _ => .undefined
    | _ => if opZ op = 0b110#3 then regOr y (fun r => .byte (.ldRAtIxd r)) .undefined else .undefined
  | 2 => if opZ op = 0b110#3 then aluIxForm y else .undefined
  | _ =>
    match (opZ op).toNat with
    | 1 =>
      match y.toNat with
      | 4 => .plain .popIx
      | 5 => .plain .jpAtIx
      | 7 => .plain .ldSpIx
      | _ => .undefined
    | 3 => if y.toNat = 4 then .plain .exAtSpIx else .undefined
    | 4 =>
      match y.toNat with
      | 0 => .byte .ldIxAtSpn
      | 1 => .plain .boolIx
      | 2 => .byte .ldAtSpnIx
      | 3 => .plain .andIxDe
      | 4 => .byte .ldHlAtHld
      | 5 => .plain .orIxDe
      | 6 => .byte .ldAtHldHl
      | _ => .plain .rrIx
    | 5 => if y.toNat = 4 then .plain .pushIx else .undefined
    | _ => .undefined

/-- The FD page but for its CB bytes (30_encoding.md R105, R125). -/
def fdForm (op : Byte) : Form :=
  let y := opY op
  let p := opP op
  let odd := op.getLsbD 3
  match opX op with
  | 0 =>
    match (opZ op).toNat with
    | 1 =>
      if odd then .plain (.addIyYy (regYy p))
      else if p.toNat = 2 then .word .ldIyMn else .undefined
    | 2 =>
      match y.toNat with
      | 4 => .word .ldAtMnIy
      | 5 => .word .ldIyAtMn
      | _ => .undefined
    | 3 =>
      match y.toNat with
      | 4 => .plain .incIy
      | 5 => .plain .decIy
      | _ => .undefined
    | 4 => if y.toNat = 6 then .byte .incAtIyd else .undefined
    | 5 => if y.toNat = 6 then .byte .decAtIyd else .undefined
    | 6 => if y.toNat = 6 then .byteByte .ldAtIydN else .undefined
    | _ => .undefined
  | 1 =>
    match y.toNat with
    | 4 =>
      match (opZ op).toNat with
      | 4 => .plain .ldpAtIyHl
      | 5 => .word .ldpAtMnIy
      | 6 => .byte (.ldRAtIyd .h)
      | _ => .undefined
    | 5 =>
      match (opZ op).toNat with
      | 4 => .plain .ldpHlAtIy
      | 5 => .word .ldpIyAtMn
      | 6 => .byte (.ldRAtIyd .l)
      | _ => .undefined
    | 6 => regOr (opZ op) (fun r => .byte (fun d => .ldAtIydR d r)) .undefined
    | 7 =>
      match (opZ op).toNat with
      | 4 => .plain .ldHlIy
      | 5 => .plain .ldIyHl
      | 6 => .byte (.ldRAtIyd .a)
      | _ => .undefined
    | _ => if opZ op = 0b110#3 then regOr y (fun r => .byte (.ldRAtIyd r)) .undefined else .undefined
  | 2 => if opZ op = 0b110#3 then aluIyForm y else .undefined
  | _ =>
    match (opZ op).toNat with
    | 1 =>
      match y.toNat with
      | 4 => .plain .popIy
      | 5 => .plain .jpAtIy
      | 7 => .plain .ldSpIy
      | _ => .undefined
    | 3 => if y.toNat = 4 then .plain .exAtSpIy else .undefined
    | 4 =>
      match y.toNat with
      | 0 => .byte .ldIyAtSpn
      | 1 => .plain .boolIy
      | 2 => .byte .ldAtSpnIy
      | 3 => .plain .andIyDe
      | 4 => .byte .ldHlAtIyd
      | 5 => .plain .orIyDe
      | 6 => .byte .ldAtIydHl
      | _ => .plain .rrIy
    | 5 => if y.toNat = 4 then .plain .pushIy else .undefined
    | _ => .undefined

/-- The bytes after DD or FD: a second byte CB puts the displacement third and the operation fourth
(30_encoding.md R105). -/
def indexPage (form : Byte → Form) (cbForm : Byte → Byte → Form) : List Byte → Decoded
  | [] => .truncated
  | op :: rest =>
    if op = 0xCB#8 then
      match rest with
      | d :: last :: _ => (cbForm d last).read 4 []
      | _ => .truncated
    else (form op).read 2 rest

/-- The bytes after CB or ED: an opcode and its operand bytes (30_encoding.md R103, R104). -/
def opcodePage (form : Byte → Form) : List Byte → Decoded
  | [] => .truncated
  | op :: rest => (form op).read 2 rest

/-- The instruction at the head of a byte sequence: the first byte selects a page (30_encoding.md R102, R107).
Decoding never depends on the state. -/
def decode : List Byte → Decoded
  | [] => .truncated
  | op :: rest =>
    if op = 0xCB#8 then opcodePage cbForm rest
    else if op = 0xED#8 then opcodePage edForm rest
    else if op = 0xDD#8 then indexPage ddForm ixCbForm rest
    else if op = 0xFD#8 then indexPage fdForm iyCbForm rest
    else (mainForm op).read 1 rest

/-- 30_encoding.md R108. -/
def Reg8.code : Reg8 → BitVec 3
  | .b => 0b000 | .c => 0b001 | .d => 0b010 | .e => 0b011 | .h => 0b100 | .l => 0b101 | .a => 0b111

/-- 30_encoding.md R109. -/
def RegSs.code : RegSs → BitVec 2
  | .bc => 0b00 | .de => 0b01 | .hl => 0b10 | .sp => 0b11

/-- 30_encoding.md R110. -/
def RegZz.code : RegZz → BitVec 2
  | .bc => 0b00 | .de => 0b01 | .hl => 0b10 | .af => 0b11

/-- 30_encoding.md R111. -/
def RegXx.code : RegXx → BitVec 2
  | .bc => 0b00 | .de => 0b01 | .ix => 0b10 | .sp => 0b11

/-- 30_encoding.md R112. -/
def RegYy.code : RegYy → BitVec 2
  | .bc => 0b00 | .de => 0b01 | .iy => 0b10 | .sp => 0b11

/-- 30_encoding.md R113. -/
def RegAlt.code : RegAlt → BitVec 2
  | .bc => 0b00 | .de => 0b01 | .hl => 0b10

/-- 30_encoding.md R115. -/
def Cc.code : Cc → BitVec 2
  | .nz => 0b00 | .z => 0b01 | .nc => 0b10 | .c => 0b11

/-- 30_encoding.md R115. -/
def Cond.code : Cond → BitVec 3
  | .nz => 0b000 | .z => 0b001 | .nc => 0b010 | .c => 0b011 | .lz => 0b100 | .lo => 0b101 | .p => 0b110
  | .m => 0b111

/-- The bytes of an instruction in address order, each byte as the bit pattern of its row in
spec/opcode_table.json (30_encoding.md R101). -/
def encode : Instr → List Byte
  | .adcAAtHl => [0b10001110#8]
  | .adcAAtIxd d => [0b11011101#8, 0b10001110#8, d]
  | .adcAAtIyd d => [0b11111101#8, 0b10001110#8, d]
  | .adcAN n => [0b11001110#8, n]
  | .adcAR r => [0b10001#5 ++ r.code]
  | .addAAtHl => [0b10000110#8]
  | .addAAtIxd d => [0b11011101#8, 0b10000110#8, d]
  | .addAAtIyd d => [0b11111101#8, 0b10000110#8, d]
  | .addAN n => [0b11000110#8, n]
  | .addAR r => [0b10000#5 ++ r.code]
  | .andAtHl => [0b10100110#8]
  | .andAtIxd d => [0b11011101#8, 0b10100110#8, d]
  | .andAtIyd d => [0b11111101#8, 0b10100110#8, d]
  | .andN n => [0b11100110#8, n]
  | .andR r => [0b10100#5 ++ r.code]
  | .cpAtHl => [0b10111110#8]
  | .cpAtIxd d => [0b11011101#8, 0b10111110#8, d]
  | .cpAtIyd d => [0b11111101#8, 0b10111110#8, d]
  | .cpN n => [0b11111110#8, n]
  | .cpR r => [0b10111#5 ++ r.code]
  | .orAtHl => [0b10110110#8]
  | .orAtIxd d => [0b11011101#8, 0b10110110#8, d]
  | .orAtIyd d => [0b11111101#8, 0b10110110#8, d]
  | .orN n => [0b11110110#8, n]
  | .orR r => [0b10110#5 ++ r.code]
  | .sbcAAtHl => [0b10011110#8]
  | .sbcAAtIxd d => [0b11011101#8, 0b10011110#8, d]
  | .sbcAAtIyd d => [0b11111101#8, 0b10011110#8, d]
  | .sbcAN n => [0b11011110#8, n]
  | .sbcAR r => [0b10011#5 ++ r.code]
  | .subAtHl => [0b10010110#8]
  | .subAtIxd d => [0b11011101#8, 0b10010110#8, d]
  | .subAtIyd d => [0b11111101#8, 0b10010110#8, d]
  | .subN n => [0b11010110#8, n]
  | .subR r => [0b10010#5 ++ r.code]
  | .xorAtHl => [0b10101110#8]
  | .xorAtIxd d => [0b11011101#8, 0b10101110#8, d]
  | .xorAtIyd d => [0b11111101#8, 0b10101110#8, d]
  | .xorN n => [0b11101110#8, n]
  | .xorR r => [0b10101#5 ++ r.code]
  | .neg => [0b11101101#8, 0b01000100#8]
  | .decAtHl => [0b00110101#8]
  | .decAtIxd d => [0b11011101#8, 0b00110101#8, d]
  | .decAtIyd d => [0b11111101#8, 0b00110101#8, d]
  | .decR r => [0b00#2 ++ r.code ++ 0b101#3]
  | .incAtHl => [0b00110100#8]
  | .incAtIxd d => [0b11011101#8, 0b00110100#8, d]
  | .incAtIyd d => [0b11111101#8, 0b00110100#8, d]
  | .incR r => [0b00#2 ++ r.code ++ 0b100#3]
  | .cpl => [0b00101111#8]
  | .rla => [0b00010111#8]
  | .rlca => [0b00000111#8]
  | .rra => [0b00011111#8]
  | .rrca => [0b00001111#8]
  | .bitBAtHl b => [0b11001011#8, 0b01#2 ++ b ++ 0b110#3]
  | .bitBAtIxd b d => [0b11011101#8, 0b11001011#8, d, 0b01#2 ++ b ++ 0b110#3]
  | .bitBAtIyd b d => [0b11111101#8, 0b11001011#8, d, 0b01#2 ++ b ++ 0b110#3]
  | .bitBR b r => [0b11001011#8, 0b01#2 ++ b ++ r.code]
  | .resBAtHl b => [0b11001011#8, 0b10#2 ++ b ++ 0b110#3]
  | .resBAtIxd b d => [0b11011101#8, 0b11001011#8, d, 0b10#2 ++ b ++ 0b110#3]
  | .resBAtIyd b d => [0b11111101#8, 0b11001011#8, d, 0b10#2 ++ b ++ 0b110#3]
  | .resBR b r => [0b11001011#8, 0b10#2 ++ b ++ r.code]
  | .setBAtHl b => [0b11001011#8, 0b11#2 ++ b ++ 0b110#3]
  | .setBAtIxd b d => [0b11011101#8, 0b11001011#8, d, 0b11#2 ++ b ++ 0b110#3]
  | .setBAtIyd b d => [0b11111101#8, 0b11001011#8, d, 0b11#2 ++ b ++ 0b110#3]
  | .setBR b r => [0b11001011#8, 0b11#2 ++ b ++ r.code]
  | .rlAtHl => [0b11001011#8, 0b00010110#8]
  | .rlAtIxd d => [0b11011101#8, 0b11001011#8, d, 0b00010110#8]
  | .rlAtIyd d => [0b11111101#8, 0b11001011#8, d, 0b00010110#8]
  | .rlR r => [0b11001011#8, 0b00010#5 ++ r.code]
  | .rlcAtHl => [0b11001011#8, 0b00000110#8]
  | .rlcAtIxd d => [0b11011101#8, 0b11001011#8, d, 0b00000110#8]
  | .rlcAtIyd d => [0b11111101#8, 0b11001011#8, d, 0b00000110#8]
  | .rlcR r => [0b11001011#8, 0b00000#5 ++ r.code]
  | .rrAtHl => [0b11001011#8, 0b00011110#8]
  | .rrAtIxd d => [0b11011101#8, 0b11001011#8, d, 0b00011110#8]
  | .rrAtIyd d => [0b11111101#8, 0b11001011#8, d, 0b00011110#8]
  | .rrR r => [0b11001011#8, 0b00011#5 ++ r.code]
  | .rrcAtHl => [0b11001011#8, 0b00001110#8]
  | .rrcAtIxd d => [0b11011101#8, 0b11001011#8, d, 0b00001110#8]
  | .rrcAtIyd d => [0b11111101#8, 0b11001011#8, d, 0b00001110#8]
  | .rrcR r => [0b11001011#8, 0b00001#5 ++ r.code]
  | .slaAtHl => [0b11001011#8, 0b00100110#8]
  | .slaAtIxd d => [0b11011101#8, 0b11001011#8, d, 0b00100110#8]
  | .slaAtIyd d => [0b11111101#8, 0b11001011#8, d, 0b00100110#8]
  | .slaR r => [0b11001011#8, 0b00100#5 ++ r.code]
  | .sraAtHl => [0b11001011#8, 0b00101110#8]
  | .sraAtIxd d => [0b11011101#8, 0b11001011#8, d, 0b00101110#8]
  | .sraAtIyd d => [0b11111101#8, 0b11001011#8, d, 0b00101110#8]
  | .sraR r => [0b11001011#8, 0b00101#5 ++ r.code]
  | .srlAtHl => [0b11001011#8, 0b00111110#8]
  | .srlAtIxd d => [0b11011101#8, 0b11001011#8, d, 0b00111110#8]
  | .srlAtIyd d => [0b11111101#8, 0b11001011#8, d, 0b00111110#8]
  | .srlR r => [0b11001011#8, 0b00111#5 ++ r.code]
  | .adcHlSs ss => [0b11101101#8, 0b01#2 ++ ss.code ++ 0b1010#4]
  | .addHlSs ss => [0b00#2 ++ ss.code ++ 0b1001#4]
  | .addIxXx xx => [0b11011101#8, 0b00#2 ++ xx.code ++ 0b1001#4]
  | .addIyYy yy => [0b11111101#8, 0b00#2 ++ yy.code ++ 0b1001#4]
  | .addSpD d => [0b00100111#8, d]
  | .andHlDe => [0b11011100#8]
  | .andIxDe => [0b11011101#8, 0b11011100#8]
  | .andIyDe => [0b11111101#8, 0b11011100#8]
  | .orHlDe => [0b11101100#8]
  | .orIxDe => [0b11011101#8, 0b11101100#8]
  | .orIyDe => [0b11111101#8, 0b11101100#8]
  | .boolHl => [0b11001100#8]
  | .boolIx => [0b11011101#8, 0b11001100#8]
  | .boolIy => [0b11111101#8, 0b11001100#8]
  | .decIx => [0b11011101#8, 0b00101011#8]
  | .decIy => [0b11111101#8, 0b00101011#8]
  | .decSs ss => [0b00#2 ++ ss.code ++ 0b1011#4]
  | .incIx => [0b11011101#8, 0b00100011#8]
  | .incIy => [0b11111101#8, 0b00100011#8]
  | .incSs ss => [0b00#2 ++ ss.code ++ 0b0011#4]
  | .mul => [0b11110111#8]
  | .rlDe => [0b11110011#8]
  | .rrDe => [0b11111011#8]
  | .rrHl => [0b11111100#8]
  | .rrIx => [0b11011101#8, 0b11111100#8]
  | .rrIy => [0b11111101#8, 0b11111100#8]
  | .sbcHlSs ss => [0b11101101#8, 0b01#2 ++ ss.code ++ 0b0010#4]
  | .ldIxMn mn => [0b11011101#8, 0b00100001#8, lo mn, hi mn]
  | .ldIyMn mn => [0b11111101#8, 0b00100001#8, lo mn, hi mn]
  | .ldDdMn dd mn => [0b00#2 ++ dd.code ++ 0b0001#4, lo mn, hi mn]
  | .ldRN r n => [0b00#2 ++ r.code ++ 0b110#3, n]
  | .ldAtMnA mn => [0b00110010#8, lo mn, hi mn]
  | .ldAAtMn mn => [0b00111010#8, lo mn, hi mn]
  | .ldAtMnHl mn => [0b00100010#8, lo mn, hi mn]
  | .ldAtMnIx mn => [0b11011101#8, 0b00100010#8, lo mn, hi mn]
  | .ldAtMnIy mn => [0b11111101#8, 0b00100010#8, lo mn, hi mn]
  | .ldAtMnSs mn ss => [0b11101101#8, 0b01#2 ++ ss.code ++ 0b0011#4, lo mn, hi mn]
  | .ldHlAtMn mn => [0b00101010#8, lo mn, hi mn]
  | .ldIxAtMn mn => [0b11011101#8, 0b00101010#8, lo mn, hi mn]
  | .ldIyAtMn mn => [0b11111101#8, 0b00101010#8, lo mn, hi mn]
  | .ldDdAtMn dd mn => [0b11101101#8, 0b01#2 ++ dd.code ++ 0b1011#4, lo mn, hi mn]
  | .ldAtBcA => [0b00000010#8]
  | .ldAtDeA => [0b00010010#8]
  | .ldAtHlN n => [0b00110110#8, n]
  | .ldAtHlR r => [0b01110#5 ++ r.code]
  | .ldRAtHl r => [0b01#2 ++ r.code ++ 0b110#3]
  | .ldAAtBc => [0b00001010#8]
  | .ldAAtDe => [0b00011010#8]
  | .ldAtIxdN d n => [0b11011101#8, 0b00110110#8, d, n]
  | .ldAtIxdR d r => [0b11011101#8, 0b01110#5 ++ r.code, d]
  | .ldRAtIxd r d => [0b11011101#8, 0b01#2 ++ r.code ++ 0b110#3, d]
  | .ldAtIydN d n => [0b11111101#8, 0b00110110#8, d, n]
  | .ldAtIydR d r => [0b11111101#8, 0b01110#5 ++ r.code, d]
  | .ldRAtIyd r d => [0b11111101#8, 0b01#2 ++ r.code ++ 0b110#3, d]
  | .ldAtHldHl d => [0b11011101#8, 0b11110100#8, d]
  | .ldHlAtHld d => [0b11011101#8, 0b11100100#8, d]
  | .ldAtSpnHl n => [0b11010100#8, n]
  | .ldAtSpnIx n => [0b11011101#8, 0b11010100#8, n]
  | .ldAtSpnIy n => [0b11111101#8, 0b11010100#8, n]
  | .ldHlAtSpn n => [0b11000100#8, n]
  | .ldIxAtSpn n => [0b11011101#8, 0b11000100#8, n]
  | .ldIyAtSpn n => [0b11111101#8, 0b11000100#8, n]
  | .ldAtIxdHl d => [0b11110100#8, d]
  | .ldHlAtIxd d => [0b11100100#8, d]
  | .ldAtIydHl d => [0b11111101#8, 0b11110100#8, d]
  | .ldHlAtIyd d => [0b11111101#8, 0b11100100#8, d]
  | .ldpAtHlHl => [0b11101101#8, 0b01100100#8]
  | .ldpAtIxHl => [0b11011101#8, 0b01100100#8]
  | .ldpAtIyHl => [0b11111101#8, 0b01100100#8]
  | .ldpAtMnHl mn => [0b11101101#8, 0b01100101#8, lo mn, hi mn]
  | .ldpAtMnIx mn => [0b11011101#8, 0b01100101#8, lo mn, hi mn]
  | .ldpAtMnIy mn => [0b11111101#8, 0b01100101#8, lo mn, hi mn]
  | .ldpHlAtHl => [0b11101101#8, 0b01101100#8]
  | .ldpHlAtIx => [0b11011101#8, 0b01101100#8]
  | .ldpHlAtIy => [0b11111101#8, 0b01101100#8]
  | .ldpHlAtMn mn => [0b11101101#8, 0b01101101#8, lo mn, hi mn]
  | .ldpIxAtMn mn => [0b11011101#8, 0b01101101#8, lo mn, hi mn]
  | .ldpIyAtMn mn => [0b11111101#8, 0b01101101#8, lo mn, hi mn]
  | .ldAEir => [0b11101101#8, 0b01010111#8]
  | .ldAIir => [0b11101101#8, 0b01011111#8]
  | .ldAXpc => [0b11101101#8, 0b01110111#8]
  | .ldAltDdBc da => [0b11101101#8, 0b01#2 ++ da.code ++ 0b1001#4]
  | .ldAltDdDe da => [0b11101101#8, 0b01#2 ++ da.code ++ 0b0001#4]
  | .ldEirA => [0b11101101#8, 0b01000111#8]
  | .ldIirA => [0b11101101#8, 0b01001111#8]
  | .ldHlIx => [0b11011101#8, 0b01111100#8]
  | .ldHlIy => [0b11111101#8, 0b01111100#8]
  | .ldIxHl => [0b11011101#8, 0b01111101#8]
  | .ldIyHl => [0b11111101#8, 0b01111101#8]
  | .ldSpHl => [0b11111001#8]
  | .ldSpIx => [0b11011101#8, 0b11111001#8]
  | .ldSpIy => [0b11111101#8, 0b11111001#8]
  | .ldXpcA => [0b11101101#8, 0b01100111#8]
  | .ldRG r g => [0b01#2 ++ r.code ++ g.code]
  | .exAtSpHl => [0b11101101#8, 0b01010100#8]
  | .exAtSpIx => [0b11011101#8, 0b11100011#8]
  | .exAtSpIy => [0b11111101#8, 0b11100011#8]
  | .exAfAltAf => [0b00001000#8]
  | .exDeHl => [0b11101011#8]
  | .exAltDeHl => [0b11100011#8]
  | .exx => [0b11011001#8]
  | .popIp => [0b11101101#8, 0b01111110#8]
  | .popIx => [0b11011101#8, 0b11100001#8]
  | .popIy => [0b11111101#8, 0b11100001#8]
  | .popZz zz => [0b11#2 ++ zz.code ++ 0b0001#4]
  | .pushIp => [0b11101101#8, 0b01110110#8]
  | .pushIx => [0b11011101#8, 0b11100101#8]
  | .pushIy => [0b11111101#8, 0b11100101#8]
  | .pushZz zz => [0b11#2 ++ zz.code ++ 0b0101#4]
  | .altd => [0b01110110#8]
  | .ioi => [0b11010011#8]
  | .ioe => [0b11011011#8]
  | .ldd => [0b11101101#8, 0b10101000#8]
  | .lddr => [0b11101101#8, 0b10111000#8]
  | .ldi => [0b11101101#8, 0b10100000#8]
  | .ldir => [0b11101101#8, 0b10110000#8]
  | .callMn mn => [0b11001101#8, lo mn, hi mn]
  | .djnzE e => [0b00010000#8, e]
  | .jpAtHl => [0b11101001#8]
  | .jpAtIx => [0b11011101#8, 0b11101001#8]
  | .jpAtIy => [0b11111101#8, 0b11101001#8]
  | .jpFMn f mn => [0b11#2 ++ f.code ++ 0b010#3, lo mn, hi mn]
  | .jpMn mn => [0b11000011#8, lo mn, hi mn]
  | .jrCcE cc e => [0b001#3 ++ cc.code ++ 0b000#3, e]
  | .jrE e => [0b00011000#8, e]
  | .lcallXMn x mn => [0b11001111#8, lo mn, hi mn, x]
  | .ljpXMn x mn => [0b11000111#8, lo mn, hi mn, x]
  | .lret => [0b11101101#8, 0b01000101#8]
  | .ret => [0b11001001#8]
  | .retF f => [0b11#2 ++ f.code ++ 0b000#3]
  | .reti => [0b11101101#8, 0b01001101#8]
  | .rstV v => [0b11#2 ++ v ++ 0b111#3]
  | .ccf => [0b00111111#8]
  | .ipset0 => [0b11101101#8, 0b01000110#8]
  | .ipset1 => [0b11101101#8, 0b01010110#8]
  | .ipset2 => [0b11101101#8, 0b01001110#8]
  | .ipset3 => [0b11101101#8, 0b01011110#8]
  | .ipres => [0b11101101#8, 0b01011101#8]
  | .nop => [0b00000000#8]
  | .scf => [0b00110111#8]

/-- The bytes of a number that spec/opcode_table.json gives for a row: the first byte is the most significant of
the `k` bytes (30_encoding.md R101), and zero bytes follow up to the longest instruction (log 34). -/
def bytesFirstHigh (k w : Nat) : List Byte :=
  (List.range 4).map fun j => if j < k then BitVec.ofNat 8 (w / 256 ^ (k - 1 - j)) else 0#8

/-- The bytes of a number whose first byte is the least significant (log 34). -/
def bytesFirstLow (w : Nat) : List Byte :=
  (List.range 4).map fun j => BitVec.ofNat 8 (w / 256 ^ j)

/-- The four bytes that a row's number of `nbits` bits stands for: the table's own order where it gives an
instruction of exactly that many bits, else the order with the first byte lowest (log 34). -/
def tableBytes (nbits w : Nat) : List Byte :=
  match decode (bytesFirstHigh (nbits / 8) w) with
  | .ok _ len => if len = nbits / 8 then bytesFirstHigh (nbits / 8) w else bytesFirstLow w
  | _ => bytesFirstLow w

/-- The instruction the decoder reads from a row's number (the host's fixed name; log 34). -/
def decodeTableWord (nbits w : Nat) : Option Instr :=
  match decode (tableBytes nbits w) with
  | .ok i _ => some i
  | _ => none

end Sys2Proof
end

