-- ==== Sys2Proof/Machine/Fetch.lean ====
section
/-! DEFINITION. Fetching an instruction, and placing one where it is fetched. -/

namespace Sys2Proof.Machine

/-- The bytes from a logical address on, up to the first that has no value (20_memory.md R70, R80; addresses wrap,
10_state.md R39). -/
def bytesFrom (s : State) : Nat → Word → List Byte
  | 0, _ => []
  | n + 1, a =>
    match s.byteAt a with
    | some v => v :: bytesFrom s n (a + 1)
    | none => []

/-- The bytes the next instruction is read from: at most the four of the longest one (30_encoding.md R100). -/
def fetchBytes (s : State) : List Byte := bytesFrom s 4 s.pc

/-- What stands at PC (10_state.md R38). All bytes are fetched before the instruction runs (20_memory.md R86). -/
def fetched (s : State) : Decoded := decode (fetchBytes s)

/-- The state in which an instruction of `len` bytes executes: PC is the address after its last byte
(10_state.md R38). -/
def advance (len : Nat) (s : State) : State := { s with pc := s.pc + BitVec.ofNat 16 len }

/-- Store bytes at a logical address and the following ones. -/
def placeBytes : List Byte → Word → State → State
  | [], _, s => s
  | v :: rest, a, s => placeBytes rest (a + 1) (memWrite a v s)

/-- The state whose next step runs the instruction that a row's number stands for (log 34, 35): its bytes at PC, and no
interrupt request before it. -/
def placeInstruction (s : State) (nbits w : Nat) : State :=
  { placeBytes (tableBytes nbits w) s.pc s with irq := [] }

end Sys2Proof.Machine
end

