-- ==== Sys2Proof/Machine/Step.lean ====
section
/-! DEFINITION. One step: at an instruction boundary either an interrupt is taken or the instruction at PC runs. -/

namespace Sys2Proof.Machine

/-- Fetch and run the instruction at PC. -/
def runInstruction (s : State) : Host.Outcome State Fault Refusal :=
  match fetched s with
  | .ok i len => exec i (advance len s)
  | .undefined => .refused (.undefinedOpcode (fetchBytes s))
  | .truncated => .fault (.unwrittenMemory (s.phys (s.pc + BitVec.ofNat 16 (fetchBytes s).length)))

/-- One step of the machine (60_exceptions.md R507). The interrupt oracle is asked at the start of every step where hold
is clear, also at the first one after an interrupt entry, before the handler's first instruction, so that two entries
can follow each other: R507 speaks only of the boundary after an instruction (DESIGN CHOICE, log 12). -/
def step (s : State) : Host.Outcome State Fault Refusal :=
  match interruptNow s with
  | some r => .next (takeInterrupt r (afterAsking s))
  | none => runInstruction (afterAsking s)

/-- The host's name for placing an instruction where the next step fetches it (log 35). -/
def State.withFetchWord (s : State) (nbits w : Nat) : State := placeInstruction s nbits w

end Sys2Proof.Machine
end

