-- ==== Sys2Proof/Safety.lean ====
section
/-! DEFINITION. What counts as a safe run, when a run has ended, and the invariant every step keeps. -/

namespace Sys2Proof.Machine

/-- A step that answers a next state. -/
def Runs (s : State) : Prop := ∃ t, step s = .next t

/-- `k` steps lead from one state to another without a fault or a refusal. -/
def Reaches (k : Nat) (s t : State) : Prop := Sys2Proof.core.run k s = .next t

/-- EndOfRun (70_reset_and_hazards.md R549; log 38): the instruction at PC is a jump to itself, `JR $` or `JP $`, with
the altd and io latches clear and no interrupt request to come. -/
def EndOfRun (s : State) : Prop :=
  s.altd = false ∧ s.io = none ∧ s.irq = [] ∧
    (fetched s = .ok (.jrE 0xFE) 2 ∨ fetched s = .ok (.jpMn s.pc) 3)

/-- The latches agree: a latch set by ALTD, IOI or IOE comes with `hold`, so that no interrupt falls between it and its
instruction (45_prefix_block.md R436), and an I/O selection and the remembered one never stand together. -/
def LatchesAgree (s : State) : Prop :=
  (s.altd = true → s.hold = true) ∧ (s.io ≠ none → s.hold = true) ∧ (s.io ≠ none → s.iobug = none)

/-- The machine's invariant: memory keeps its canonical form and the latches agree. -/
def Inv (s : State) : Prop := Memory.wf s.mem ∧ LatchesAgree s

end Sys2Proof.Machine
end

