-- ==== Sys2Proof/Certificates/Slice0/Obligations.lean ====
section
/-! DEFINITION. The statements for the provers. The vocabulary in which they are written (namespace Claims) restates the
spec's rules on its own: results as exact integers, what an instruction leaves unchanged as a list of the pieces it may
change, which instructions carry which mark as lists transcribed from the spec's tables. -/

namespace Sys2Proof.Claims

open Sys2Proof.Machine

/-! ### Pieces of state and what an instruction leaves unchanged -/

/-- Every piece of state but memory and the four latches. -/
inductive Piece where
  | main (r : Reg8) | mainF | alt (r : Reg8) | altF
  | ix | iy | sp | pc | xpc | ip | iir | eir | mmu | mmuIn | irq | ioIn | ioDraws | ioTrace
deriving DecidableEq, Repr

/-- A piece has the same value in two states. -/
def Piece.Same : Piece → State → State → Prop
  | .main r, s, t => t.main.get r = s.main.get r
  | .mainF, s, t => t.main.f = s.main.f
  | .alt r, s, t => t.alt.get r = s.alt.get r
  | .altF, s, t => t.alt.f = s.alt.f
  | .ix, s, t => t.ix = s.ix
  | .iy, s, t => t.iy = s.iy
  | .sp, s, t => t.sp = s.sp
  | .pc, s, t => t.pc = s.pc
  | .xpc, s, t => t.xpc = s.xpc
  | .ip, s, t => t.ip = s.ip
  | .iir, s, t => t.iir = s.iir
  | .eir, s, t => t.eir = s.eir
  | .mmu, s, t => t.mmu = s.mmu
  | .mmuIn, s, t => t.mmuIn = s.mmuIn
  | .irq, s, t => t.irq = s.irq
  | .ioIn, s, t => t.ioIn = s.ioIn
  | .ioDraws, s, t => t.ioDraws = s.ioDraws
  | .ioTrace, s, t => t.ioTrace = s.ioTrace

/-- Every piece that is not listed keeps its value. -/
def Keeps (changed : List Piece) (s t : State) : Prop := ∀ p, p ∉ changed → p.Same s t

/-- Every byte of memory reads as before. -/
def MemKept (s t : State) : Prop := ∀ p, t.physByte p = s.physByte p

/-- Every byte of memory outside the listed addresses reads as before. -/
def MemKeptOutside (ps : List PhysAddr) (s t : State) : Prop := ∀ p, p ∉ ps → t.physByte p = s.physByte p

/-- The latches after an instruction that is not ALTD, IOI or IOE (10_state.md R52 to R55). -/
def LatchesAre (hold : Bool) (bug : Option IoSpace) (t : State) : Prop :=
  t.altd = false ∧ t.io = none ∧ t.hold = hold ∧ t.iobug = bug

/-- An instruction answers a next state that keeps what is not listed, leaves the latches as said, and has `P`. -/
def Completes (i : Instr) (s : State) (hold : Bool) (bug : Option IoSpace) (changed : List Piece) (P : State → Prop) :
    Prop :=
  ∃ t, exec i s = .next t ∧ Keeps changed s t ∧ LatchesAre hold bug t ∧ P t

/-! ### Destinations -/

/-- The bank a redirected destination lies in (45_prefix_block.md R431). -/
def bankOf (alt : Bool) (s : State) : Bank := if alt then s.alt else s.main

/-- A byte register of the chosen bank. -/
def regPiece (alt : Bool) (r : Reg8) : Piece := if alt then .alt r else .main r

/-- The flags register of the chosen bank. -/
def flagPiece (alt : Bool) : Piece := if alt then .altF else .mainF

/-- The pieces a word register consists of, in the chosen bank where it has two. -/
def wordPieces (alt : Bool) : WordReg → List Piece
  | .pair .bc => [regPiece alt .b, regPiece alt .c]
  | .pair .de => [regPiece alt .d, regPiece alt .e]
  | .pair .hl => [regPiece alt .h, regPiece alt .l]
  | .pair .af => [regPiece alt .a, flagPiece alt]
  | .ix => [.ix]
  | .iy => [.iy]
  | .sp => [.sp]

/-- The value of a word register, in the chosen bank where it has two: high byte first (10_state.md R32). -/
def wordIn (alt : Bool) (t : State) : WordReg → Word
  | .pair .bc => (bankOf alt t).b ++ (bankOf alt t).c
  | .pair .de => (bankOf alt t).d ++ (bankOf alt t).e
  | .pair .hl => (bankOf alt t).h ++ (bankOf alt t).l
  | .pair .af => (bankOf alt t).a ++ (bankOf alt t).f
  | .ix => t.ix
  | .iy => t.iy
  | .sp => t.sp

/-- The surroundings an I/O access may change. -/
def ioPieces : List Piece := [.mmu, .mmuIn, .ioIn, .ioDraws, .ioTrace]

/-! ### Flags -/

/-- The named flags have the given values, every other flag and every bit of F that holds no flag keeps its value
(00_scope.md R11, 10_state.md R43). -/
def FlagsBecome (w : FlagWrite) (old new : Byte) : Prop :=
  flagS new = w.s.getD (flagS old) ∧ flagZ new = w.z.getD (flagZ old) ∧ flagLV new = w.lv.getD (flagLV old) ∧
    flagC new = w.c.getD (flagC old) ∧
    ∀ i, i ∉ [flagSBit, flagZBit, flagLVBit, flagCBit] → new.getLsbD i = old.getLsbD i

/-- `lo ≤ x ≤ hi` for the two's complement range of `n` bits. -/
def fits (n : Nat) (x : Int) : Bool := decide (-(2 ^ (n - 1) : Int) ≤ x) && decide (x < (2 ^ (n - 1) : Int))

/-- `add_N` with V as "the signed result does not fit" (00_scope.md R14). -/
def addRef {n : Nat} (a b : BitVec n) (c : Bool) : BitVec n × FlagWrite :=
  let sum := a.toNat + b.toNat + c.toNat
  let res := BitVec.ofNat n sum
  (res, { s := decide (res.toInt < 0), z := decide (res.toNat = 0), lv := !fits n (a.toInt + b.toInt + c.toNat),
          c := decide (2 ^ n ≤ sum) })

/-- `sub_N` with V as "the signed result does not fit" and C as "a is less than b + c" (00_scope.md R14). -/
def subRef {n : Nat} (a b : BitVec n) (c : Bool) : BitVec n × FlagWrite :=
  let res := BitVec.ofInt n ((a.toNat : Int) - b.toNat - c.toNat)
  (res, { s := decide (res.toInt < 0), z := decide (res.toNat = 0), lv := !fits n (a.toInt - b.toInt - c.toNat),
          c := decide (a.toNat < b.toNat + c.toNat) })

/-- `logic_N` with the given C: L is "the value is at least 2^(N-4)" (00_scope.md R14). -/
def logicRef {n : Nat} (res : BitVec n) (c : Bool) : FlagWrite :=
  { s := decide (res.toInt < 0), z := decide (res.toNat = 0), lv := decide (2 ^ (n - 4) ≤ res.toNat), c := c }

/-- The accumulator operations as a result and flags (43_arith8.md R303 to R342). -/
def aluRef (op : AluOp) (a v : Byte) (cf : Bool) : Byte × FlagWrite :=
  match op with
  | .add => addRef a v false
  | .adc => addRef a v cf
  | .sub => subRef a v false
  | .sbc => subRef a v cf
  | .and => (a &&& v, logicRef (a &&& v) false)
  | .xor => (a ^^^ v, logicRef (a ^^^ v) false)
  | .or => (a ||| v, logicRef (a ||| v) false)
  | .cp => (a, (subRef a v false).2)

/-- The shifts and rotates as numbers: the result and the bit moved out (44_bit_shift_rotate.md R385 to R412). -/
def shiftRef (op : ShiftOp) (v : Byte) (cf : Bool) : Byte × Bool :=
  let x := v.toNat
  match op with
  | .rl => (BitVec.ofNat 8 (2 * x + cf.toNat), decide (128 ≤ x))
  | .rlc => (BitVec.ofNat 8 (2 * x + x / 128), decide (128 ≤ x))
  | .sla => (BitVec.ofNat 8 (2 * x), decide (128 ≤ x))
  | .rr => (BitVec.ofNat 8 (x / 2 + 128 * cf.toNat), decide (x % 2 = 1))
  | .rrc => (BitVec.ofNat 8 (x / 2 + 128 * (x % 2)), decide (x % 2 = 1))
  | .sra => (BitVec.ofNat 8 (x / 2 + 128 * (x / 128)), decide (x % 2 = 1))
  | .srl => (BitVec.ofNat 8 (x / 2), decide (x % 2 = 1))

/-- When a condition is true of F (10_state.md R42). -/
def condRef (f : Byte) : Cond → Prop
  | .nz => flagZ f = false
  | .z => flagZ f = true
  | .nc => flagC f = false
  | .c => flagC f = true
  | .lz => flagLV f = false
  | .lo => flagLV f = true
  | .p => flagS f = false
  | .m => flagS f = true

/-- When the 3-bit code of a condition is true of F: the flag Z, C, L/V or S equals the low bit (10_state.md R42). -/
def codeTrue (k : Nat) (f : Byte) : Bool :=
  let flag := if k / 2 = 0 then flagZ f else if k / 2 = 1 then flagC f else if k / 2 = 2 then flagLV f else flagS f
  flag == (k % 2 == 1)

/-- The priority of a request as a number (60_exceptions.md R504). -/
def priorityNumber : Priority → Nat
  | .p1 => 1
  | .p2 => 2
  | .p3 => 3

/-- The condition of `f` that a condition of `cc` names (30_encoding.md R115). -/
def ccRef : Cc → Cond
  | .nz => .nz
  | .z => .z
  | .nc => .nc
  | .c => .c

/-! ### Accesses that an I/O latch may redirect -/

/-- What an I/O access reads and changes outside the core, the MMU state included (20_memory.md R78). -/
structure Around where
  mmu     : MmuState
  mmuIn   : List (Option MmuState)
  ioIn    : List Byte
  ioDraws : Nat
  ioTrace : List IoEvent

/-- The surroundings of a state. -/
def around (s : State) : Around := ⟨s.mmu, s.mmuIn, s.ioIn, s.ioDraws, s.ioTrace⟩

/-- The oracle's next answer: the next supplied value, or else a free value (20_memory.md R78). -/
def Around.answer (w : Around) (sp : IoSpace) (a : Word) : Byte :=
  match w.ioIn with
  | v :: _ => v
  | [] => Config.ioDraw w.ioDraws sp (ioAddr sp a)

/-- The surroundings after a source access at `a`: unchanged by a memory access (20_memory.md R78). -/
def Around.read (w : Around) (sel : Option IoSpace) (a : Word) : Around :=
  match sel with
  | none => w
  | some sp =>
    ⟨w.mmu, w.mmuIn, w.ioIn.tail, if w.ioIn = [] then w.ioDraws + 1 else w.ioDraws,
      w.ioTrace ++ [.read sp (ioAddr sp a) (w.answer sp a)]⟩

/-- The surroundings after a destination access at `a`: unchanged by a memory access; an I/O write is recorded, and the
MMU state becomes what the oracle's next answer says, if it says anything (20_memory.md R78). -/
def Around.write (w : Around) (sel : Option IoSpace) (a : Word) (v : Byte) : Around :=
  match sel with
  | none => w
  | some sp =>
    ⟨w.mmuIn.head?.join.getD w.mmu, w.mmuIn.tail, w.ioIn, w.ioDraws, w.ioTrace ++ [.write sp (ioAddr sp a) v]⟩

/-- The space a marked access goes to: the I/O latch's; without one memory, or for one of the twelve forms of the I/O
bug the remembered space (45_prefix_block.md R434, 10_state.md R55). -/
def space (twelve : Bool) (s : State) : Option IoSpace :=
  match s.io with
  | some sp => some sp
  | none => if twelve then s.iobug else none

/-- A source access at `a` gives `v`: the byte in memory, or the oracle's answer. -/
def SourceByte (sel : Option IoSpace) (a : Word) (v : Byte) (s : State) : Prop :=
  match sel with
  | none => s.byteAt a = some v
  | some sp => v = (around s).answer sp a

/-- A source access of two bytes gives `w`: low byte at `a`, high byte at the next address (20_memory.md R71, R77). -/
def SourceWord (sel : Option IoSpace) (a w : Word) (s : State) : Prop :=
  match sel with
  | none => ∃ l h, s.byteAt a = some l ∧ s.byteAt (a + 1) = some h ∧ w = h ++ l
  | some sp => w = ((around s).read (some sp) a).answer sp (a + 1) ++ (around s).answer sp a

/-- A destination access at `a` stored `v`, and memory outside that byte is as before; an I/O access leaves memory. -/
def StoredByte (sel : Option IoSpace) (a : Word) (v : Byte) (s t : State) : Prop :=
  match sel with
  | none => t.physByte (s.phys a) = some v ∧ MemKeptOutside [s.phys a] s t
  | some _ => MemKept s t

/-- Two bytes lie at two physical addresses: `second` was written after `first`, so that it stands where both are the
same byte. -/
def TwoBytes (first second : PhysAddr) (v w : Byte) (s t : State) : Prop :=
  t.physByte second = some w ∧ (first ≠ second → t.physByte first = some v) ∧ MemKeptOutside [first, second] s t

/-- A destination access of two bytes at `a` stored `w`, low byte first. -/
def StoredWord (sel : Option IoSpace) (a w : Word) (s t : State) : Prop :=
  match sel with
  | none => TwoBytes (s.phys a) (s.phys (a + 1)) (w.extractLsb' 0 8) (w.extractLsb' 8 8) s t
  | some _ => MemKept s t

/-- A word was pushed: high byte at SP-1, low byte at SP-2, SP moved by 2 (41_move_exchange_stack.md R201). -/
def PushedWord (w : Word) (s t : State) : Prop :=
  t.sp = s.sp - 2 ∧
    TwoBytes (s.phys (s.sp - 1)) (s.phys (s.sp - 2)) (w.extractLsb' 8 8) (w.extractLsb' 0 8) s t

/-! ### Instructions by shape -/

/-- The three memory operands of the 8-bit operations. -/
inductive Place where
  | hl
  | ixd (d : Byte)
  | iyd (d : Byte)
deriving DecidableEq, Repr

/-- The effective address of a place (20_memory.md R73). -/
def Place.addr (s : State) : Place → Word
  | .hl => s.main.h ++ s.main.l
  | .ixd d => s.ix + d.signExtend 16
  | .iyd d => s.iy + d.signExtend 16

/-- Whether a place makes an instruction of one byte. -/
def Place.isHl : Place → Bool
  | .hl => true
  | _ => false

/-- An accumulator operation on a register (43_arith8.md R300). -/
def aluReg : AluOp → Reg8 → Instr
  | .add => .addAR | .adc => .adcAR | .sub => .subR | .sbc => .sbcAR
  | .and => .andR | .xor => .xorR | .or => .orR | .cp => .cpR

/-- An accumulator operation on a constant. -/
def aluImm : AluOp → Byte → Instr
  | .add => .addAN | .adc => .adcAN | .sub => .subN | .sbc => .sbcAN
  | .and => .andN | .xor => .xorN | .or => .orN | .cp => .cpN

/-- An accumulator operation on memory. -/
def aluMem : AluOp → Place → Instr
  | .add, .hl => .addAAtHl | .add, .ixd d => .addAAtIxd d | .add, .iyd d => .addAAtIyd d
  | .adc, .hl => .adcAAtHl | .adc, .ixd d => .adcAAtIxd d | .adc, .iyd d => .adcAAtIyd d
  | .sub, .hl => .subAtHl | .sub, .ixd d => .subAtIxd d | .sub, .iyd d => .subAtIyd d
  | .sbc, .hl => .sbcAAtHl | .sbc, .ixd d => .sbcAAtIxd d | .sbc, .iyd d => .sbcAAtIyd d
  | .and, .hl => .andAtHl | .and, .ixd d => .andAtIxd d | .and, .iyd d => .andAtIyd d
  | .xor, .hl => .xorAtHl | .xor, .ixd d => .xorAtIxd d | .xor, .iyd d => .xorAtIyd d
  | .or, .hl => .orAtHl | .or, .ixd d => .orAtIxd d | .or, .iyd d => .orAtIyd d
  | .cp, .hl => .cpAtHl | .cp, .ixd d => .cpAtIxd d | .cp, .iyd d => .cpAtIyd d

/-- INC (`true`) or DEC (`false`) of a register. -/
def stepReg : Bool → Reg8 → Instr
  | true => .incR
  | false => .decR

/-- INC or DEC of memory. -/
def stepMem : Bool → Place → Instr
  | true, .hl => .incAtHl | true, .ixd d => .incAtIxd d | true, .iyd d => .incAtIyd d
  | false, .hl => .decAtHl | false, .ixd d => .decAtIxd d | false, .iyd d => .decAtIyd d

/-- INC or DEC of a byte: the result, and S, Z, V without C (43_arith8.md R302). -/
def stepRef (up : Bool) (v : Byte) : Byte × FlagWrite :=
  let r := if up then addRef v 1#8 false else subRef v 1#8 false
  (r.1, { r.2 with c := none })

/-- A shift or rotate of a register. -/
def shiftOnReg : ShiftOp → Reg8 → Instr
  | .rlc => .rlcR | .rrc => .rrcR | .rl => .rlR | .rr => .rrR | .sla => .slaR | .sra => .sraR | .srl => .srlR

/-- A shift or rotate of memory. -/
def shiftOnMem : ShiftOp → Place → Instr
  | .rlc, .hl => .rlcAtHl | .rlc, .ixd d => .rlcAtIxd d | .rlc, .iyd d => .rlcAtIyd d
  | .rrc, .hl => .rrcAtHl | .rrc, .ixd d => .rrcAtIxd d | .rrc, .iyd d => .rrcAtIyd d
  | .rl, .hl => .rlAtHl | .rl, .ixd d => .rlAtIxd d | .rl, .iyd d => .rlAtIyd d
  | .rr, .hl => .rrAtHl | .rr, .ixd d => .rrAtIxd d | .rr, .iyd d => .rrAtIyd d
  | .sla, .hl => .slaAtHl | .sla, .ixd d => .slaAtIxd d | .sla, .iyd d => .slaAtIyd d
  | .sra, .hl => .sraAtHl | .sra, .ixd d => .sraAtIxd d | .sra, .iyd d => .sraAtIyd d
  | .srl, .hl => .srlAtHl | .srl, .ixd d => .srlAtIxd d | .srl, .iyd d => .srlAtIyd d

/-- BIT on memory. -/
def bitMem (b : BitVec 3) : Place → Instr
  | .hl => .bitBAtHl b
  | .ixd d => .bitBAtIxd b d
  | .iyd d => .bitBAtIyd b d

/-- SET (`true`) or RES (`false`) of a register. -/
def putReg : Bool → BitVec 3 → Reg8 → Instr
  | true => .setBR
  | false => .resBR

/-- SET or RES on memory. -/
def putMem : Bool → BitVec 3 → Place → Instr
  | true, b, .hl => .setBAtHl b | true, b, .ixd d => .setBAtIxd b d | true, b, .iyd d => .setBAtIyd b d
  | false, b, .hl => .resBAtHl b | false, b, .ixd d => .resBAtIxd b d | false, b, .iyd d => .resBAtIyd b d

/-- `v` with bit `b` equal to `up`, as a number. -/
def bitPut (up : Bool) (b : BitVec 3) (v : Byte) : Byte :=
  if v.getLsbD b.toNat = up then v
  else if up then BitVec.ofNat 8 (v.toNat + 2 ^ b.toNat) else BitVec.ofNat 8 (v.toNat - 2 ^ b.toNat)

/-! ### What an instruction of a shape does -/

/-- The pieces an accumulator operation may change: CP writes no register (43_arith8.md R300). -/
def aluPieces (op : AluOp) (s : State) : List Piece :=
  if op = .cp then [flagPiece s.altd] else [regPiece s.altd .a, flagPiece s.altd]

/-- The effect of an accumulator operation with operand `v`. -/
def AluPost (op : AluOp) (v : Byte) (s t : State) : Prop :=
  (op ≠ .cp → (bankOf s.altd t).a = (aluRef op s.main.a v (flagC s.main.f)).1) ∧
    FlagsBecome (aluRef op s.main.a v (flagC s.main.f)).2 (bankOf s.altd s).f (bankOf s.altd t).f ∧ MemKept s t

/-- An instruction writes one byte register, and flags, of the chosen bank. -/
def ByteOp (i : Instr) (s : State) (r : Reg8) (v : Byte) (f : FlagWrite) : Prop :=
  Completes i s false none [regPiece s.altd r, flagPiece s.altd] fun t =>
    (bankOf s.altd t).get r = v ∧ FlagsBecome f (bankOf s.altd s).f (bankOf s.altd t).f ∧ MemKept s t

/-- An instruction writes only flags, of the chosen bank. -/
def FlagOp (i : Instr) (s : State) (f : FlagWrite) : Prop :=
  Completes i s false none [flagPiece s.altd] fun t =>
    FlagsBecome f (bankOf s.altd s).f (bankOf s.altd t).f ∧ MemKept s t

/-- An instruction writes one byte register of a bank and nothing else. -/
def ByteSet (i : Instr) (s : State) (hold alt : Bool) (r : Reg8) (v : Byte) : Prop :=
  Completes i s hold none [regPiece alt r] fun t => (bankOf alt t).get r = v ∧ MemKept s t

/-- An instruction writes one word register, and flags, of the chosen bank. -/
def WordOp (i : Instr) (s : State) (r : WordReg) (w : Word) (f : FlagWrite) : Prop :=
  Completes i s false none (flagPiece s.altd :: wordPieces s.altd r) fun t =>
    wordIn s.altd t r = w ∧ FlagsBecome f (bankOf s.altd s).f (bankOf s.altd t).f ∧ MemKept s t

/-- An instruction writes one word register and nothing else. -/
def WordSet (i : Instr) (s : State) (hold alt : Bool) (r : WordReg) (w : Word) : Prop :=
  Completes i s hold none (wordPieces alt r) fun t => wordIn alt t r = w ∧ MemKept s t

/-- An instruction reads a byte, changes it to `g v` and writes it back to the same place, and writes flags. -/
def ReadModifyWrite (i : Instr) (s : State) (sel : Option IoSpace) (a : Word) (g : Byte → Byte)
    (f : Byte → FlagWrite) : Prop :=
  ∀ v, SourceByte sel a v s → Completes i s false s.io (flagPiece s.altd :: ioPieces) fun t =>
    StoredByte sel a (g v) s t ∧ FlagsBecome (f v) (bankOf s.altd s).f (bankOf s.altd t).f ∧
      around t = ((around s).read sel a).write sel a (g v)

/-- An instruction loads a byte register of the chosen bank. -/
def ByteLoad (i : Instr) (s : State) (sel : Option IoSpace) (a : Word) (r : Reg8) : Prop :=
  ∀ v, SourceByte sel a v s → Completes i s false s.io (regPiece s.altd r :: ioPieces) fun t =>
    (bankOf s.altd t).get r = v ∧ MemKept s t ∧ around t = (around s).read sel a

/-- An instruction stores a byte. -/
def ByteStore (i : Instr) (s : State) (sel : Option IoSpace) (a : Word) (v : Byte) : Prop :=
  Completes i s false s.io ioPieces fun t => StoredByte sel a v s t ∧ around t = (around s).write sel a v

/-- An instruction loads a word register, of the chosen bank where it has two. -/
def WordLoad (i : Instr) (s : State) (a : Word) (r : WordReg) : Prop :=
  ∀ w, SourceWord s.io a w s → Completes i s false s.io (wordPieces s.altd r ++ ioPieces) fun t =>
    wordIn s.altd t r = w ∧ MemKept s t ∧ around t = ((around s).read s.io a).read s.io (a + 1)

/-- An instruction stores a word. -/
def WordStore (i : Instr) (s : State) (a w : Word) : Prop :=
  Completes i s false s.io ioPieces fun t =>
    StoredWord s.io a w s t ∧
      around t = ((around s).write s.io a (w.extractLsb' 0 8)).write s.io (a + 1) (w.extractLsb' 8 8)

/-- Two readable bytes make a word register, of the chosen bank where it has two. -/
def LoadsTwo (i : Instr) (s : State) (alt : Bool) (p q : PhysAddr) (r : WordReg) : Prop :=
  ∀ l h, s.physByte p = some l → s.physByte q = some h → WordSet i s false alt r (h ++ l)

/-- A word is stored to two bytes of memory, low byte first, and nothing else changes. -/
def StoresTwo (i : Instr) (s : State) (p q : PhysAddr) (w : Word) : Prop :=
  Completes i s false none [] fun t => TwoBytes p q (w.extractLsb' 0 8) (w.extractLsb' 8 8) s t

/-- The 20-bit address of an LDP: A modulo 16 gives the top four bits (20_memory.md R75). -/
def ldpRef (s : State) (a16 : Word) : PhysAddr := BitVec.ofNat 20 (s.main.a.toNat % 16 * 65536 + a16.toNat)

/-- A word register is exchanged with the two bytes at SP. -/
def ExchangesTop (i : Instr) (s : State) (alt : Bool) (r : WordReg) : Prop :=
  ∀ l h, s.byteAt s.sp = some l → s.byteAt (s.sp + 1) = some h →
    Completes i s false none (wordPieces alt r) fun t => wordIn alt t r = h ++ l ∧
      TwoBytes (s.phys s.sp) (s.phys (s.sp + 1)) ((wordIn false s r).extractLsb' 0 8)
        ((wordIn false s r).extractLsb' 8 8) s t

/-- A jump: PC and nothing else. -/
def Jumps (i : Instr) (s : State) (target : Word) : Prop :=
  Completes i s false none [.pc] fun t => t.pc = target ∧ MemKept s t

/-- A relative target as an integer: the stored byte is signed (46_control_misc.md R451). -/
def relRef (s : State) (e : Byte) : Word := BitVec.ofInt 16 (s.pc.toNat + e.toInt)

/-- A call that pushes the return address. -/
def Calls (i : Instr) (s : State) (target : Word) : Prop :=
  Completes i s false none [.pc, .sp] fun t => t.pc = target ∧ PushedWord s.pc s t

/-- The address after `k` bytes of a block move, going up or down. -/
def blockAddr (up : Bool) (a : Word) (k : Nat) : Word :=
  if up then BitVec.ofNat 16 (a.toNat + k) else BitVec.ofInt 16 (a.toNat - k)

/-- The registers a block move writes. -/
def blockPieces : List Piece := [.main .b, .main .c, .main .d, .main .e, .main .h, .main .l, .mainF]

/-- LDI (`true`) or LDD. -/
def moveOne : Bool → Instr
  | true => .ldi
  | false => .ldd

/-- LDIR (`true`) or LDDR. -/
def moveAll : Bool → Instr
  | true => .ldir
  | false => .lddr

/-- How many bytes LDIR and LDDR move; for BC = 0 the model's choice of log 20. -/
def moveCount (s : State) : Nat := if wordIn false s (.pair .bc) = 0 then 65536 else (wordIn false s (.pair .bc)).toNat

/-- `n` executions of one instruction, one after the other, each with the given io latch. -/
def execTimes (sel : Option IoSpace) (i : Instr) : Nat → State → Host.Outcome State Fault Refusal
  | 0, s => .next s
  | n + 1, s =>
    match exec i { s with io := sel } with
    | .next t => execTimes sel i n t
    | o => o

/-- The MMU state after `k` I/O writes: each takes the oracle's next answer, if there is one. -/
def mmuAfterWrites : Nat → MmuState → List (Option MmuState) → MmuState
  | 0, m, _ => m
  | k + 1, m, answers => mmuAfterWrites k (answers.head?.join.getD m) answers.tail

/-- The MMU state once `k` bytes of a block move are done: only I/O writes change it. -/
def mmuDuring (s : State) (k : Nat) : MmuState := if s.io = none then s.mmu else mmuAfterWrites k s.mmu s.mmuIn

/-- Byte `k` of a block move's source is `v k`, read under XPC and the MMU state of that moment. -/
def SourceBytes (up : Bool) (s : State) (v : Nat → Byte) : Prop :=
  ∀ k, k < moveCount s →
    s.physByte (translate (blockAddr up (wordIn false s (.pair .hl)) k) s.xpc (mmuDuring s k)) = some (v k)

/-- What a block move of the bytes `v` adds to the I/O trace: nothing without an I/O latch, else one write each. -/
def blockTrace (up : Bool) (s : State) (v : Nat → Byte) : List IoEvent :=
  match s.io with
  | none => []
  | some sp =>
    (List.range (moveCount s)).map fun k => .write sp (ioAddr sp (blockAddr up (wordIn false s (.pair .de)) k)) (v k)

/-- PUSH, POP and the word register both name. -/
def stackWords : List (Instr × Instr × WordReg) :=
  [(.pushIx, .popIx, .ix), (.pushIy, .popIy, .iy), (.pushZz .bc, .popZz .bc, .pair .bc),
   (.pushZz .de, .popZz .de, .pair .de), (.pushZz .hl, .popZz .hl, .pair .hl), (.pushZz .af, .popZz .af, .pair .af)]

/-- The instructions of ALTD mark R whose selected destination is SP (45_prefix_block.md R439). -/
def destinationSp : Instr → Bool
  | .ldDdMn dd _ | .ldDdAtMn dd _ | .incSs dd | .decSs dd => dd == .sp
  | _ => false

/-- The three-bit code of a byte register (30_encoding.md R108). -/
def registerCode : Reg8 → BitVec 3
  | .b => 0b000 | .c => 0b001 | .d => 0b010 | .e => 0b011 | .h => 0b100 | .l => 0b101 | .a => 0b111

/-- The three-bit code of a shift or rotate on the CB page (30_encoding.md R103). -/
def shiftCode : ShiftOp → BitVec 3
  | .rlc => 0b000 | .rrc => 0b001 | .rl => 0b010 | .rr => 0b011 | .sla => 0b100 | .sra => 0b101 | .srl => 0b111

/-- The bytes of an instruction stand at PC. -/
def StandsAtPc (i : Instr) (s : State) : Prop :=
  ∀ k (h : k < (encode i).length), s.byteAt (s.pc + BitVec.ofNat 16 k) = some (encode i)[k]

/-! ### Lists of instructions transcribed from the spec -/

/-- The instructions with an ALTD mark F, R or SP (45_prefix_block.md R437). -/
def altdMarked : Instr → Bool
  | .adcAAtHl | .adcAAtIxd .. | .adcAAtIyd .. | .adcAN .. | .adcAR .. | .addAAtHl | .addAAtIxd ..
  | .addAAtIyd .. | .addAN .. | .addAR .. | .andAtHl | .andAtIxd .. | .andAtIyd .. | .andN .. | .andR ..
  | .cpAtHl | .cpAtIxd .. | .cpAtIyd .. | .cpN .. | .cpR .. | .orAtHl | .orAtIxd .. | .orAtIyd .. | .orN ..
  | .orR .. | .sbcAAtHl | .sbcAAtIxd .. | .sbcAAtIyd .. | .sbcAN .. | .sbcAR .. | .subAtHl | .subAtIxd ..
  | .subAtIyd .. | .subN .. | .subR .. | .xorAtHl | .xorAtIxd .. | .xorAtIyd .. | .xorN .. | .xorR .. | .neg
  | .decAtHl | .decAtIxd .. | .decAtIyd .. | .decR .. | .incAtHl | .incAtIxd .. | .incAtIyd .. | .incR ..
  | .cpl | .rla | .rlca | .rra | .rrca | .bitBAtHl .. | .bitBAtIxd .. | .bitBAtIyd .. | .bitBR .. | .resBR ..
  | .setBR .. | .rlAtHl | .rlAtIxd .. | .rlAtIyd .. | .rlR .. | .rlcAtHl | .rlcAtIxd .. | .rlcAtIyd ..
  | .rlcR .. | .rrAtHl | .rrAtIxd .. | .rrAtIyd .. | .rrR .. | .rrcAtHl | .rrcAtIxd .. | .rrcAtIyd ..
  | .rrcR .. | .slaAtHl | .slaAtIxd .. | .slaAtIyd .. | .slaR .. | .sraAtHl | .sraAtIxd .. | .sraAtIyd ..
  | .sraR .. | .srlAtHl | .srlAtIxd .. | .srlAtIyd .. | .srlR .. | .adcHlSs .. | .addHlSs .. | .addIxXx ..
  | .addIyYy .. | .addSpD .. | .andHlDe | .andIxDe | .andIyDe | .orHlDe | .orIxDe | .orIyDe | .boolHl
  | .boolIx | .boolIy | .decSs .. | .incSs .. | .rlDe | .rrDe | .rrHl | .rrIx | .rrIy | .sbcHlSs ..
  | .ldDdMn .. | .ldRN .. | .ldAAtMn .. | .ldHlAtMn .. | .ldDdAtMn .. | .ldRAtHl .. | .ldAAtBc | .ldAAtDe
  | .ldRAtIxd .. | .ldRAtIyd .. | .ldHlAtHld .. | .ldHlAtSpn .. | .ldHlAtIxd .. | .ldHlAtIyd .. | .ldAEir
  | .ldAIir | .ldAXpc | .ldHlIx | .ldHlIy | .ldRG .. | .exAtSpHl | .exDeHl | .exAltDeHl | .popZz ..
  | .djnzE .. | .ccf | .scf => true
  | _ => false

/-- The instructions with an I/O mark S, D or S,D (45_prefix_block.md R438, 20_memory.md R79). -/
def ioMarked : Instr → Bool
  | .adcAAtHl | .adcAAtIxd .. | .adcAAtIyd .. | .addAAtHl | .addAAtIxd .. | .addAAtIyd .. | .andAtHl
  | .andAtIxd .. | .andAtIyd .. | .cpAtHl | .cpAtIxd .. | .cpAtIyd .. | .orAtHl | .orAtIxd .. | .orAtIyd ..
  | .sbcAAtHl | .sbcAAtIxd .. | .sbcAAtIyd .. | .subAtHl | .subAtIxd .. | .subAtIyd .. | .xorAtHl
  | .xorAtIxd .. | .xorAtIyd .. | .decAtHl | .decAtIxd .. | .decAtIyd .. | .incAtHl | .incAtIxd ..
  | .incAtIyd .. | .bitBAtHl .. | .bitBAtIxd .. | .bitBAtIyd .. | .resBAtHl .. | .resBAtIxd .. | .resBAtIyd ..
  | .setBAtHl .. | .setBAtIxd .. | .setBAtIyd .. | .rlAtHl | .rlAtIxd .. | .rlAtIyd .. | .rlcAtHl
  | .rlcAtIxd .. | .rlcAtIyd .. | .rrAtHl | .rrAtIxd .. | .rrAtIyd .. | .rrcAtHl | .rrcAtIxd .. | .rrcAtIyd ..
  | .slaAtHl | .slaAtIxd .. | .slaAtIyd .. | .sraAtHl | .sraAtIxd .. | .sraAtIyd .. | .srlAtHl | .srlAtIxd ..
  | .srlAtIyd .. | .ldAtMnA .. | .ldAAtMn .. | .ldAtMnHl .. | .ldAtMnIx .. | .ldAtMnIy .. | .ldAtMnSs ..
  | .ldHlAtMn .. | .ldIxAtMn .. | .ldIyAtMn .. | .ldDdAtMn .. | .ldAtBcA | .ldAtDeA | .ldAtHlN ..
  | .ldAtHlR .. | .ldRAtHl .. | .ldAAtBc | .ldAAtDe | .ldAtIxdN .. | .ldAtIxdR .. | .ldRAtIxd ..
  | .ldAtIydN .. | .ldAtIydR .. | .ldRAtIyd .. | .ldAtHldHl .. | .ldHlAtHld .. | .ldAtIxdHl .. | .ldHlAtIxd ..
  | .ldAtIydHl .. | .ldHlAtIyd .. | .ldd | .lddr | .ldi | .ldir => true
  | _ => false

/-- The thirteen privileged forms (60_exceptions.md R508). -/
def privileged : Instr → Bool
  | .bitBAtHl .. | .ldAXpc | .ldSpHl | .ldSpIx | .ldSpIy | .ldXpcA | .popIp | .reti | .ipset0 | .ipset1
  | .ipset2 | .ipset3 | .ipres => true
  | _ => false

/-- The twelve one-byte forms of the I/O bug (70_reset_and_hazards.md R545). -/
def oneByteHl : Instr → Bool
  | .adcAAtHl | .addAAtHl | .andAtHl | .cpAtHl | .orAtHl | .sbcAAtHl | .subAtHl | .xorAtHl | .decAtHl
  | .incAtHl | .ldAtHlR .. | .ldRAtHl .. => true
  | _ => false

/-- The instructions that set a latch for the next one (30_encoding.md R106). -/
def setsLatch : Instr → Bool
  | .altd | .ioi | .ioe => true
  | _ => false

/-- The instructions that write F or F', flag by flag or as a byte (10_state.md R44). -/
def writesFlags : Instr → Bool
  | .adcAAtHl | .adcAAtIxd .. | .adcAAtIyd .. | .adcAN .. | .adcAR .. | .addAAtHl | .addAAtIxd ..
  | .addAAtIyd .. | .addAN .. | .addAR .. | .andAtHl | .andAtIxd .. | .andAtIyd .. | .andN .. | .andR ..
  | .cpAtHl | .cpAtIxd .. | .cpAtIyd .. | .cpN .. | .cpR .. | .orAtHl | .orAtIxd .. | .orAtIyd .. | .orN ..
  | .orR .. | .sbcAAtHl | .sbcAAtIxd .. | .sbcAAtIyd .. | .sbcAN .. | .sbcAR .. | .subAtHl | .subAtIxd ..
  | .subAtIyd .. | .subN .. | .subR .. | .xorAtHl | .xorAtIxd .. | .xorAtIyd .. | .xorN .. | .xorR .. | .neg
  | .decAtHl | .decAtIxd .. | .decAtIyd .. | .decR .. | .incAtHl | .incAtIxd .. | .incAtIyd .. | .incR ..
  | .rla | .rlca | .rra | .rrca | .bitBAtHl .. | .bitBAtIxd .. | .bitBAtIyd .. | .bitBR .. | .rlAtHl
  | .rlAtIxd .. | .rlAtIyd .. | .rlR .. | .rlcAtHl | .rlcAtIxd .. | .rlcAtIyd .. | .rlcR .. | .rrAtHl
  | .rrAtIxd .. | .rrAtIyd .. | .rrR .. | .rrcAtHl | .rrcAtIxd .. | .rrcAtIyd .. | .rrcR .. | .slaAtHl
  | .slaAtIxd .. | .slaAtIyd .. | .slaR .. | .sraAtHl | .sraAtIxd .. | .sraAtIyd .. | .sraR .. | .srlAtHl
  | .srlAtIxd .. | .srlAtIyd .. | .srlR .. | .adcHlSs .. | .addHlSs .. | .addIxXx .. | .addIyYy ..
  | .addSpD .. | .andHlDe | .andIxDe | .andIyDe | .orHlDe | .orIxDe | .orIyDe | .boolHl | .boolIx | .boolIy
  | .rlDe | .rrDe | .rrHl | .rrIx | .rrIy | .sbcHlSs .. | .ldAEir | .ldAIir | .exAfAltAf | .popZz .. | .ldd
  | .lddr | .ldi | .ldir | .ccf | .scf => true
  | _ => false

/-- The instructions whose operation stores to memory or, after an I/O latch, to I/O. -/
def storesBytes : Instr → Bool
  | .decAtHl | .decAtIxd .. | .decAtIyd .. | .incAtHl | .incAtIxd .. | .incAtIyd .. | .resBAtHl ..
  | .resBAtIxd .. | .resBAtIyd .. | .setBAtHl .. | .setBAtIxd .. | .setBAtIyd .. | .rlAtHl | .rlAtIxd ..
  | .rlAtIyd .. | .rlcAtHl | .rlcAtIxd .. | .rlcAtIyd .. | .rrAtHl | .rrAtIxd .. | .rrAtIyd .. | .rrcAtHl
  | .rrcAtIxd .. | .rrcAtIyd .. | .slaAtHl | .slaAtIxd .. | .slaAtIyd .. | .sraAtHl | .sraAtIxd ..
  | .sraAtIyd .. | .srlAtHl | .srlAtIxd .. | .srlAtIyd .. | .ldAtMnA .. | .ldAtMnHl .. | .ldAtMnIx ..
  | .ldAtMnIy .. | .ldAtMnSs .. | .ldAtBcA | .ldAtDeA | .ldAtHlN .. | .ldAtHlR .. | .ldAtIxdN ..
  | .ldAtIxdR .. | .ldAtIydN .. | .ldAtIydR .. | .ldAtHldHl .. | .ldAtSpnHl .. | .ldAtSpnIx .. | .ldAtSpnIy ..
  | .ldAtIxdHl .. | .ldAtIydHl .. | .ldpAtHlHl | .ldpAtIxHl | .ldpAtIyHl | .ldpAtMnHl .. | .ldpAtMnIx ..
  | .ldpAtMnIy .. | .exAtSpHl | .exAtSpIx | .exAtSpIy | .pushIp | .pushIx | .pushIy | .pushZz .. | .ldd
  | .lddr | .ldi | .ldir | .callMn .. | .lcallXMn .. | .rstV .. => true
  | _ => false

/-- The instructions that write PC (10_state.md R40). -/
def writesPc : Instr → Bool
  | .callMn .. | .djnzE .. | .jpAtHl | .jpAtIx | .jpAtIy | .jpFMn .. | .jpMn .. | .jrCcE .. | .jrE ..
  | .lcallXMn .. | .ljpXMn .. | .lret | .ret | .retF .. | .reti | .rstV .. => true
  | _ => false

/-- The instructions that write IP (10_state.md R47). -/
def writesIp : Instr → Bool
  | .popIp | .reti | .ipset0 | .ipset1 | .ipset2 | .ipset3 | .ipres => true
  | _ => false

/-- The instructions that write XPC (10_state.md R46). -/
def writesXpc : Instr → Bool
  | .ldXpcA | .lcallXMn .. | .ljpXMn .. | .lret => true
  | _ => false

/-- The second bytes of the ED page (30_encoding.md R124). -/
def edBytes : List Byte :=
  [0x41, 0x42, 0x43, 0x44, 0x45, 0x46, 0x47, 0x49, 0x4A, 0x4B, 0x4D, 0x4E, 0x4F, 0x51, 0x52, 0x53, 0x54, 0x56,
   0x57, 0x59, 0x5A, 0x5B, 0x5D, 0x5E, 0x5F, 0x61, 0x62, 0x63, 0x64, 0x65, 0x67, 0x69, 0x6A, 0x6B, 0x6C, 0x6D,
   0x72, 0x73, 0x76, 0x77, 0x7A, 0x7B, 0x7E, 0xA0, 0xA8, 0xB0, 0xB8]

/-- The second bytes of the DD and FD pages other than CB (30_encoding.md R125). -/
def indexBytes : List Byte :=
  [0x09, 0x19, 0x21, 0x22, 0x23, 0x29, 0x2A, 0x2B, 0x34, 0x35, 0x36, 0x39, 0x46, 0x4E, 0x56, 0x5E, 0x64, 0x65,
   0x66, 0x6C, 0x6D, 0x6E, 0x70, 0x71, 0x72, 0x73, 0x74, 0x75, 0x77, 0x7C, 0x7D, 0x7E, 0x86, 0x8E, 0x96, 0x9E,
   0xA6, 0xAE, 0xB6, 0xBE, 0xC4, 0xCC, 0xD4, 0xDC, 0xE1, 0xE3, 0xE4, 0xE5, 0xE9, 0xEC, 0xF4, 0xF9, 0xFC]

/-- The fourth bytes after DD CB d and FD CB d (30_encoding.md R126). -/
def indexBitBytes : List Byte :=
  [0x06, 0x0E, 0x16, 0x1E, 0x26, 0x2E, 0x3E, 0x46, 0x4E, 0x56, 0x5E, 0x66, 0x6E, 0x76, 0x7E, 0x86, 0x8E, 0x96,
   0x9E, 0xA6, 0xAE, 0xB6, 0xBE, 0xC6, 0xCE, 0xD6, 0xDE, 0xE6, 0xEE, 0xF6, 0xFE]

/-- The byte sequences that no row of the opcode table matches (30_encoding.md R128). -/
def NotDefined : List Byte → Prop
  | first :: second :: rest =>
    (first = 0xCB ∧ 0x30 ≤ second.toNat ∧ second.toNat ≤ 0x37) ∨ (first = 0xED ∧ second ∉ edBytes) ∨
      ((first = 0xDD ∨ first = 0xFD) ∧ second ≠ 0xCB ∧ second ∉ indexBytes) ∨
      ((first = 0xDD ∨ first = 0xFD) ∧ second = 0xCB ∧ ∃ d fourth more, rest = d :: fourth :: more ∧
        fourth ∉ indexBitBytes)
  | _ => False

end Sys2Proof.Claims

open Sys2Proof Sys2Proof.Machine Sys2Proof.Claims

/-- For every well-formed instruction i and any bytes after it, decode of encode i followed by those bytes is i with
the length of encode i. encode follows the bit patterns of the opcode table, decode the opcode maps.
Cites 30_encoding.md R101, 30_encoding.md R107. -/
def Obligations.DecodeEncode : Prop :=
  ∀ (i : Instr) (rest : List Byte), i.wellFormed = true →
    decode (encode i ++ rest) = .ok i (encode i).length

/-- If decode answers i with length len on a byte sequence, then i is well-formed and the first len bytes are exactly
encode i. With DecodeEncode this says that every word has one meaning and no bit of an encoding is dropped.
Cites 30_encoding.md R101, 30_encoding.md R126. -/
def Obligations.DecodeOnlyEncodings : Prop :=
  ∀ (bytes : List Byte) (i : Instr) (len : Nat), decode bytes = .ok i len →
    i.wellFormed = true ∧ len = (encode i).length ∧ bytes.take len = encode i

/-- decode answers undefined exactly where the bytes begin with CB and 30 to 37, with ED and a byte outside the 47 of
its page, with DD or FD and a byte other than CB outside the 53 of theirs, or with DD CB d or FD CB d and a byte
outside the 31 of theirs; no first byte alone is undefined, and operand bytes play no part. Where no interrupt is
taken and such bytes stand at PC, the step is refused as an undefined opcode.
Cites 30_encoding.md R128. -/
def Obligations.UndefinedExactly : Prop :=
  (∀ bytes : List Byte, decode bytes = .undefined ↔ NotDefined bytes) ∧
    ∀ s : State, interruptNow s = none → NotDefined (fetchBytes s) →
      step s = .refused (.undefinedOpcode (fetchBytes s))

/-- Eight words, one for each page and one for the permuted priority bits of IPSET, decode to the instruction the
encoding tables give them. A sanity check on fixed words.
Cites 30_encoding.md R105, 30_encoding.md R121. -/
def Obligations.DecodeSampleWords : Prop :=
  decode [0b10001110#8] = .ok .adcAAtHl 1 ∧
    decode [0b01000111#8] = .ok (.ldRG .b .a) 1 ∧
    decode [0b11001011#8, 0b01011110#8] = .ok (.bitBAtHl 3) 2 ∧
    decode [0b11101101#8, 0b01010110#8] = .ok .ipset1 2 ∧
    decode [0b11101101#8, 0b01001110#8] = .ok .ipset2 2 ∧
    decode [0b11011101#8, 0b11001011#8, 0xFE#8, 0b00010110#8] = .ok (.rlAtIxd 0xFE) 4 ∧
    decode [0b11111101#8, 0b00110110#8, 0x05#8, 0x77#8] = .ok (.ldAtIydN 0x05 0x77) 4 ∧
    decode [0b11001111#8, 0x34#8, 0xE2#8, 0x10#8] = .ok (.lcallXMn 0x10 0xE234) 4

/-- If no request is taken at this boundary and the bytes of the well-formed instruction i stand at PC, then step is
exec of i in the state where the oracle has been asked and PC is the address after the instruction. That the oracle is
asked exactly where hold is clear and its answer is then used up is the model's choice (DESIGN CHOICE, log 12). If
instead byte k of i is the first one that has no value, the bytes before it standing at PC, then the step is the fault
that names its physical address: no instruction runs. The fault is the model's choice (DESIGN CHOICE, log 1, 37).
Cites 10_state.md R38, 60_exceptions.md R507, 20_memory.md R80. -/
def Obligations.StepRunsDecoded : Prop :=
  (∀ (s : State) (i : Instr), i.wellFormed = true → interruptNow s = none → StandsAtPc i s →
    step s = exec i { s with irq := if s.hold then s.irq else s.irq.tail,
                             pc := s.pc + BitVec.ofNat 16 (encode i).length }) ∧
    ∀ (s : State) (i : Instr) (k : Nat), i.wellFormed = true → interruptNow s = none → k < (encode i).length →
      (∀ j (h : j < (encode i).length), j < k → s.byteAt (s.pc + BitVec.ofNat 16 j) = some (encode i)[j]) →
      s.byteAt (s.pc + BitVec.ofNat 16 k) = none →
      step s = .fault (.unwrittenMemory (s.phys (s.pc + BitVec.ofNat 16 k)))

/-- With hold clear and the oracle presenting a request whose priority exceeds the current one, the step is next: PC
is pushed high byte first, SP falls by two, IP takes the priority at its low end, PC is IIR or EIR with the offset,
and everything else, the latches included, is as before. The entry sequence is the model's choice after the rule,
marked PRESUMED in log entry 11. That the oracle is asked at every start of a step with hold clear is the model's
choice of log 12 (DESIGN CHOICE). That a store takes effect whatever memory stands there is the model's choice (DESIGN
CHOICE, log 43).
Cites 60_exceptions.md R504, 60_exceptions.md R507, 60_exceptions.md R510. -/
def Obligations.StepTakesInterrupt : Prop :=
  ∀ (s : State) (r : IrqRequest) (more : List (Option IrqRequest)), s.hold = false → s.irq = some r :: more →
    s.ip.toNat % 4 < priorityNumber r.prio →
    ∃ t, step s = .next t ∧ PushedWord s.pc s t ∧
      t.ip = BitVec.ofNat 8 (4 * s.ip.toNat + priorityNumber r.prio) ∧
      t.pc = (if r.external then s.eir else s.iir) ++ r.off ∧ t.irq = more ∧
      Keeps [.sp, .ip, .pc, .irq] s t ∧ t.altd = s.altd ∧ t.io = s.io ∧ t.hold = s.hold ∧ t.iobug = s.iobug

/-- If a step runs an instruction, then at the boundary that follows a presented request is taken exactly where the
instruction is neither one of the thirteen privileged forms nor ALTD, IOI or IOE, and the priority of the request
exceeds the processor priority IP[1:0] after the instruction: at 0 priorities 1, 2 and 3, at 1 priorities 2 and 3, at
2 priority 3, at 3 none. It rests on readings that the spec marks as its own: that none is taken after a privileged
form (R508, "This spec reads it as") or between ALTD, IOI or IOE and the instruction after it (R436, "The source does
not say this"), log 31, and on when the oracle is asked, the model's choice (DESIGN CHOICE, log 12).
Cites 60_exceptions.md R504, 60_exceptions.md R508, 45_prefix_block.md R436. -/
def Obligations.InterruptAfterInstruction : Prop :=
  ∀ (s t : State) (i : Instr), i.wellFormed = true → interruptNow s = none → StandsAtPc i s → step s = .next t →
    ∀ (r : IrqRequest) (more : List (Option IrqRequest)),
      interruptNow { t with irq := some r :: more } = some r ↔
        privileged i = false ∧ setsLatch i = false ∧ t.ip.toNat % 4 < priorityNumber r.prio

/-- After an interrupt of request r has been taken, a request q is eligible exactly when its priority is greater than
that of r, whatever IP was before. It rests on the entry sequence, which shifts the priority of r into IP: the model's
choice after R510, from outside the source (PRESUMED, log 11).
Cites 60_exceptions.md R513, 60_exceptions.md R510. -/
def Obligations.NestedEligibility : Prop :=
  ∀ (s : State) (r q : IrqRequest),
    eligible q (takeInterrupt r s) = true ↔ priorityNumber r.prio < priorityNumber q.prio

/-- The state after reset has the values that the reset table recommends (PRESUMED, log entries 3 and 4): PC 0, XPC 0,
IP FFh, IIR and EIR 0, and the four latches clear. That no byte of memory has a value is the model's choice (DESIGN
CHOICE, log 1, 35): R57 and R541 say that memory is what the launch supplies.
Cites 10_state.md R57, 70_reset_and_hazards.md R541. -/
def Obligations.ResetValues : Prop :=
  State.reset.pc = 0 ∧ State.reset.xpc = 0 ∧ State.reset.ip.toNat = 255 ∧ State.reset.iir = 0 ∧ State.reset.eir = 0 ∧
    LatchesAre false none State.reset ∧ (∀ p, State.reset.physByte p = none) ∧
    ∀ r, interruptNow { State.reset with irq := [some r] } = none

/-- Memory is in canonical form and the latches agree in the state after reset. It rests on the clear latches and the
empty memory of the model's reset (log 1, 4).
Cites 10_state.md R57. -/
def Obligations.InvAtReset : Prop :=
  Inv State.reset

/-- From every state that meets the invariant (memory strictly rising and below 2^20; a set altd or io latch comes
with hold; an I/O selection never stands beside a remembered one), a step that answers a next state gives one that
meets it. The last clause is the model's choice (DESIGN CHOICE, log 18).
Cites 20_memory.md R70, 45_prefix_block.md R436, 10_state.md R55. -/
def Obligations.InvKept : Prop :=
  ∀ s t : State, Inv s → step s = .next t → Inv t

/-- For every instruction that answers a next state: IP is unchanged unless it is IPSET, IPRES, POP IP or RETI; XPC
unless it is LD XPC,A, LCALL, LJP or LRET; IIR unless LD IIR,A; EIR unless LD EIR,A; and the MMU state unless it is an
I/O-marked instruction that stores, whose I/O write may change it as the I/O oracle says (log 7). That the list of
interrupt answers is unchanged is the model's choice (DESIGN CHOICE, log 8, 10): R78 lets an I/O write change pending
requests, and here the list holds the answers that then follow.
Cites 10_state.md R46, 10_state.md R47, 10_state.md R48, 10_state.md R49, 20_memory.md R74, 20_memory.md R78. -/
def Obligations.ControlRegisterWriters : Prop :=
  ∀ (i : Instr) (s t : State), exec i s = .next t →
    (writesIp i = false → t.ip = s.ip) ∧ (writesXpc i = false → t.xpc = s.xpc) ∧
      (i ≠ .ldIirA → t.iir = s.iir) ∧ (i ≠ .ldEirA → t.eir = s.eir) ∧ t.irq = s.irq ∧
      (storesBytes i = false ∨ ioMarked i = false → t.mmu = s.mmu)

/-- An instruction outside the list of those that write PC leaves PC at the address after it.
Cites 10_state.md R40. -/
def Obligations.PcWriters : Prop :=
  ∀ (i : Instr) (s t : State), exec i s = .next t → writesPc i = false → t.pc = s.pc

/-- An instruction that the table of flag writers does not list leaves every bit of both flag registers unchanged (POP
zz is listed for AF only: the other pops leave F and F').
Cites 10_state.md R44. -/
def Obligations.FlagWriters : Prop :=
  ∀ (i : Instr) (s t : State), exec i s = .next t →
    writesFlags i = false ∨ (∃ zz, i = .popZz zz ∧ zz ≠ .af) → t.main.f = s.main.f ∧ t.alt.f = s.alt.f

/-- With the altd latch clear, an instruction other than EX AF,AF', EXX, EX DE',HL, LD dd',BC and LD dd',DE leaves all
eight alternate registers unchanged.
Cites 10_state.md R33. -/
def Obligations.AlternateBankWriters : Prop :=
  ∀ (i : Instr) (s t : State), exec i s = .next t → s.altd = false →
    (i ≠ .exAfAltAf ∧ i ≠ .exx ∧ i ≠ .exAltDeHl ∧ ∀ da, i ≠ .ldAltDdBc da ∧ i ≠ .ldAltDdDe da) → t.alt = s.alt

/-- With the altd latch set, an instruction marked F, R or F R (every mark but the special exchange EX DE,HL) writes
its register and flag results in the alternate bank: all eight main registers keep their values. Reads and old values
are covered by the result statements.
Cites 45_prefix_block.md R431, 45_prefix_block.md R437. -/
def Obligations.MainBankKeptUnderAltd : Prop :=
  ∀ (i : Instr) (s t : State), exec i s = .next t → s.altd = true → altdMarked i = true → i ≠ .exDeHl → t.main = s.main

/-- After every instruction that is not ALTD, IOI or IOE the altd and io latches are clear; after every instruction
hold is set exactly if it is one of the thirteen privileged forms or a latch setter; and iobug remembers the I/O latch
of an I/O-marked instruction, ALTD keeps it, everything else clears it (the iobug latch is the model's choice of log
18). A latch that an unmarked instruction ignores is used up and not remembered (log 13, 14, 16).
Cites 10_state.md R52, 10_state.md R53, 10_state.md R54, 10_state.md R55. -/
def Obligations.LatchLife : Prop :=
  ∀ (i : Instr) (s t : State), exec i s = .next t →
    (setsLatch i = false → t.altd = false ∧ t.io = none) ∧ t.hold = (privileged i || setsLatch i) ∧
      t.iobug = (if ioMarked i then s.io else if i = .altd then s.iobug else none)

/-- The trace of I/O accesses, the supplied answers, the count of free answers, the MMU state and the oracle's answers
about it are unchanged by an instruction without an I/O mark, and by a marked one when neither the io latch nor, for
the twelve one-byte (HL) forms, the remembered selection (the model's choice of log 18) is set. An unmarked
instruction ignores the io latch (the model's choice, log 14).
Cites 20_memory.md R79, 45_prefix_block.md R434, 20_memory.md R78. -/
def Obligations.IoOnlyMarked : Prop :=
  ∀ (i : Instr) (s t : State), exec i s = .next t →
    ioMarked i = false ∨ (s.io = none ∧ (oneByteHl i = true → s.iobug = none)) →
      t.ioTrace = s.ioTrace ∧ t.ioIn = s.ioIn ∧ t.ioDraws = s.ioDraws ∧ t.mmu = s.mmu ∧ t.mmuIn = s.mmuIn

/-- With the io latch set, an instruction with an I/O mark, block moves included, leaves every byte of memory as it
was: its writes are I/O writes.
Cites 45_prefix_block.md R434, 20_memory.md R77. -/
def Obligations.IoLeavesMemory : Prop :=
  ∀ (i : Instr) (s t : State), exec i s = .next t → ioMarked i = true → s.io ≠ none → MemKept s t

/-- An instruction whose operation has no store, push or read-modify-write of memory leaves every byte of memory as it
was.
Cites 40_load_store.md R140, 41_move_exchange_stack.md R200, 41_move_exchange_stack.md R201. -/
def Obligations.MemoryWriters : Prop :=
  ∀ (i : Instr) (s t : State), exec i s = .next t → storesBytes i = false → MemKept s t

/-- If an instruction faults, the fault names a physical byte that had no value when it began. It is refused exactly
if it is IOI or IOE with the io latch already set, or LD SP,mn, LD SP,(mn), INC SP or DEC SP with the altd latch set.
Nothing else ever stops an instruction, with any operands and latches. That a read of a memory byte without a value
faults (log 1), and that a register always holds a value, so that no read of one faults as R501 would have it (log 2),
are the model's choices (DESIGN CHOICE). That the other sequences which R501 lists as refused do not stop is its
choice too: a latch before an unmarked instruction (log 13, 14), the I/O bug (log 18), LDIR and LDDR with BC = 0 (log
20), LDP at FFFFh (log 21).
Cites 60_exceptions.md R500, 60_exceptions.md R501, 45_prefix_block.md R435, 45_prefix_block.md R439. -/
def Obligations.ExecStops : Prop :=
  ∀ (i : Instr) (s : State),
    (∀ e, exec i s = .fault e → ∃ p, e = .unwrittenMemory p ∧ s.physByte p = none) ∧
      ∀ r, exec i s = .refused r ↔
        ((i = .ioi ∨ i = .ioe) ∧ s.io ≠ none ∧ r = .secondIoPrefix) ∨
          (destinationSp i = true ∧ s.altd = true ∧ r = .altdSp)

/-- The model's choice (DESIGN CHOICE, log entries 13 and 14) where the spec offers it: an instruction without an ALTD
mark gives the same outcome whether the altd latch is set or clear, and one without an I/O mark whatever the io latch
and the remembered I/O selection are. The latch setters are left out.
Cites 45_prefix_block.md R439. -/
def Obligations.UnmarkedIgnoresLatch : Prop :=
  ∀ (i : Instr) (s : State), setsLatch i = false →
    (altdMarked i = false → exec i { s with altd := true } = exec i { s with altd := false }) ∧
      ∀ x y, ioMarked i = false → exec i { s with io := x, iobug := y } = exec i { s with io := none, iobug := none }

/-- The model's reading of the documented I/O bug (DESIGN CHOICE, log entry 18): for every instruction but ALTD, the
remembered selection changes nothing unless the instruction is one of the twelve forms and the io latch is clear; and
then the form acts as if that latch were set, but for the latch it leaves behind.
Cites 10_state.md R55, 70_reset_and_hazards.md R545. -/
def Obligations.BugOnlyTwelve : Prop :=
  ∀ (i : Instr) (s : State) (x : Option IoSpace),
    (i ≠ .altd → oneByteHl i = false ∨ s.io ≠ none → exec i { s with iobug := x } = exec i s) ∧
      ∀ sp t, oneByteHl i = true → exec i { s with io := none, iobug := some sp } = .next t →
        exec i { s with io := some sp } = .next { t with iobug := some sp }

/-- Each of the eight accumulator operations on a register or a constant completes: A (A' under ALTD) gets the result
and the four flags the values of the rules, V as "the signed result does not fit", C as carry or borrow, L as "a top
bit is set"; the operands and the carry are the main ones; CP writes no register; nothing else changes. The model's
choice (DESIGN CHOICE) where the rules refuse: after IOI or IOE each of these forms executes normally, without an I/O
access (log 14). The flag formulas are PRESUMED (log 26).
Cites 43_arith8.md R300, 43_arith8.md R301, 00_scope.md R14, 45_prefix_block.md R431. -/
def Obligations.AccumulatorRegisterConstant : Prop :=
  ∀ (op : AluOp) (s : State),
    (∀ r, Completes (aluReg op r) s false none (aluPieces op s) fun t => AluPost op (s.main.get r) s t) ∧
      ∀ n, Completes (aluImm op n) s false none (aluPieces op s) fun t => AluPost op n s t

/-- Where the operand byte is readable at the effective address, or is the oracle's answer under an I/O selection, the
operation completes with the result and flags of the rules; memory is as before; exactly one I/O read is recorded
under a selection and none otherwise. The remembered selection of the (HL) forms is the model's choice of log 18. The
flag formulas are PRESUMED (log 26).
Cites 43_arith8.md R300, 43_arith8.md R301, 45_prefix_block.md R434, 20_memory.md R73. -/
def Obligations.AccumulatorMemory : Prop :=
  ∀ (op : AluOp) (p : Place) (s : State) (v : Byte), SourceByte (space p.isHl s) (p.addr s) v s →
    Completes (aluMem op p) s false s.io (aluPieces op s ++ ioPieces) fun t =>
      AluPost op v s t ∧ around t = (around s).read (space p.isHl s) (p.addr s)

/-- NEG writes 0 - A with the flags of a subtraction; CCF writes the complement of the main C and SCF sets C, each in
F or, under ALTD, F', and no other flag. The model's choice (DESIGN CHOICE) where the rules refuse: after IOI or IOE
each of the three executes normally, without an I/O access (log 14). The flag formulas are PRESUMED (log 26).
Cites 43_arith8.md R343, 46_control_misc.md R470, 46_control_misc.md R477. -/
def Obligations.NegateAndCarryFlag : Prop :=
  ∀ s : State,
    ByteOp .neg s .a (subRef 0#8 s.main.a false).1 (subRef 0#8 s.main.a false).2 ∧
      FlagOp .ccf s { c := !flagC s.main.f } ∧ FlagOp .scf s { c := true }

/-- INC and DEC of a byte register, or of the byte at (HL), (IX+d), (IY+d) in memory or I/O, complete with the result
one up or down, S, Z and signed overflow of it, and C not written; RLA, RLCA, RRA, RRCA write A and of the flags only
C, also where A becomes zero; CPL writes 255 - A and no flag. Every other register, flag and byte of memory is
unchanged. That INC (HL) and DEC (HL) read and write the remembered I/O space is the model's choice of log 18. The
model's choice (DESIGN CHOICE) where the rules refuse: after IOI or IOE each form without an I/O mark executes
normally, without an I/O access (log 14). The flag formulas are PRESUMED (log 26). That a store takes effect whatever
memory stands there is the model's choice (DESIGN CHOICE, log 43).
Cites 43_arith8.md R302, 43_arith8.md R344, 43_arith8.md R348, 45_prefix_block.md R431, 45_prefix_block.md R434,
10_state.md R55. -/
def Obligations.IncDecAndRotatesOfA : Prop :=
  ∀ s : State,
    (∀ up r, ByteOp (stepReg up r) s r (stepRef up (s.main.get r)).1 (stepRef up (s.main.get r)).2) ∧
      (∀ up (p : Place), ReadModifyWrite (stepMem up p) s (space p.isHl s) (p.addr s) (fun v => (stepRef up v).1)
          fun v => (stepRef up v).2) ∧
      (∀ x ∈ [(Instr.rla, ShiftOp.rl), (.rlca, .rlc), (.rra, .rr), (.rrca, .rrc)],
        ByteOp x.1 s .a (shiftRef x.2 s.main.a (flagC s.main.f)).1
          { c := (shiftRef x.2 s.main.a (flagC s.main.f)).2 }) ∧
      ByteSet .cpl s false s.altd .a (BitVec.ofNat 8 (255 - s.main.a.toNat))

/-- Each shift or rotate of a byte register writes the number the rule gives, S, Z and the logical check of it, and C
from the bit moved out; the carry moved in is the main one. The model's choice (DESIGN CHOICE) where the rules refuse:
after IOI or IOE each form executes normally, without an I/O access (log 14). The flag formulas are PRESUMED (log 26).
Cites 44_bit_shift_rotate.md R372, 44_bit_shift_rotate.md R388, 44_bit_shift_rotate.md R412. -/
def Obligations.ShiftRegister : Prop :=
  ∀ (op : ShiftOp) (r : Reg8) (s : State),
    ByteOp (shiftOnReg op r) s r (shiftRef op (s.main.get r) (flagC s.main.f)).1
      (logicRef (shiftRef op (s.main.get r) (flagC s.main.f)).1 (shiftRef op (s.main.get r) (flagC s.main.f)).2)

/-- The byte at (HL), (IX+d), (IY+d) is read, the shifted value is written to the same place and S, Z, L/V, C are
written; every other byte of memory and every register keep their values. The flag formulas are PRESUMED (log 26).
That a store takes effect whatever memory stands there is the model's choice (DESIGN CHOICE, log 43).
Cites 44_bit_shift_rotate.md R371, 44_bit_shift_rotate.md R372. -/
def Obligations.ShiftMemory : Prop :=
  ∀ (op : ShiftOp) (p : Place) (s : State),
    ReadModifyWrite (shiftOnMem op p) s (space false s) (p.addr s) (fun v => (shiftRef op v (flagC s.main.f)).1)
      fun v => logicRef (shiftRef op v (flagC s.main.f)).1 (shiftRef op v (flagC s.main.f)).2

/-- BIT writes Z as the complement of the tested bit and nothing else; the memory forms read one byte, from I/O under
a selection; hold is set after BIT b,(HL) and clear after the other forms. The model's choice (DESIGN CHOICE) where
the rules refuse: after IOI or IOE BIT b,r executes normally, without an I/O access (log 14).
Cites 44_bit_shift_rotate.md R372, 44_bit_shift_rotate.md R373, 44_bit_shift_rotate.md R376, 60_exceptions.md R508. -/
def Obligations.BitTest : Prop :=
  ∀ (b : BitVec 3) (s : State),
    (∀ r, FlagOp (.bitBR b r) s { z := !(s.main.get r).getLsbD b.toNat }) ∧
      ∀ (p : Place) (v : Byte), SourceByte (space false s) (p.addr s) v s →
        Completes (bitMem b p) s p.isHl s.io (flagPiece s.altd :: ioPieces) fun t =>
          FlagsBecome { z := !v.getLsbD b.toNat } (bankOf s.altd s).f (bankOf s.altd t).f ∧ MemKept s t ∧
            around t = (around s).read (space false s) (p.addr s)

/-- SET and RES of a register write the byte with that one bit set or cleared to the register, or under ALTD to the
alternate one, the other bits from the main register. On memory they read and write one byte at the effective address,
both in I/O under a selection, for RES too (log 25), and leave every other byte and both flag registers. The model's
choice (DESIGN CHOICE) where the rules refuse: after ALTD the memory forms (log 13) and after IOI or IOE the register
forms (log 14) execute normally. That a store takes effect whatever memory stands there is the model's choice (DESIGN
CHOICE, log 43).
Cites 44_bit_shift_rotate.md R372, 44_bit_shift_rotate.md R377, 44_bit_shift_rotate.md R380, 44_bit_shift_rotate.md
R384. -/
def Obligations.SetReset : Prop :=
  ∀ (up : Bool) (b : BitVec 3) (s : State),
    (∀ r, ByteSet (putReg up b r) s false s.altd r (bitPut up b (s.main.get r))) ∧
      ∀ (p : Place) (v : Byte), SourceByte (space false s) (p.addr s) v s →
        Completes (putMem up b p) s false s.io ioPieces fun t =>
          StoredByte (space false s) (p.addr s) (bitPut up b v) s t ∧
            around t = ((around s).read (space false s) (p.addr s)).write (space false s) (p.addr s) (bitPut up b v)

/-- ADC HL,ss and SBC HL,ss write all four flags of the 16-bit operation; ADD HL,ss, ADD IX,xx, ADD IY,yy and ADD SP,d
write only C, the carry out of bit 15 (for ADD SP,d of the sign-extended addend, log 23). IX, IY and SP have no
alternate: under ALTD only the flags move. The model's choice (DESIGN CHOICE) where the rules refuse: after IOI or IOE
each form executes normally, without an I/O access (log 14). The flag formulas are PRESUMED (log 26).
Cites 42_arith16.md R250, 42_arith16.md R251, 42_arith16.md R256. -/
def Obligations.WordAddSubtract : Prop :=
  ∀ s : State,
    (∀ ss, WordOp (.adcHlSs ss) s (.pair .hl) (addRef (wordIn false s (.pair .hl)) (wordIn false s (ssReg ss)) (flagC s.main.f)).1
        (addRef (wordIn false s (.pair .hl)) (wordIn false s (ssReg ss)) (flagC s.main.f)).2) ∧
      (∀ ss, WordOp (.sbcHlSs ss) s (.pair .hl) (subRef (wordIn false s (.pair .hl)) (wordIn false s (ssReg ss)) (flagC s.main.f)).1
        (subRef (wordIn false s (.pair .hl)) (wordIn false s (ssReg ss)) (flagC s.main.f)).2) ∧
      (∀ ss, WordOp (.addHlSs ss) s (.pair .hl) (addRef (wordIn false s (.pair .hl)) (wordIn false s (ssReg ss)) false).1
        { c := (addRef (wordIn false s (.pair .hl)) (wordIn false s (ssReg ss)) false).2.c }) ∧
      (∀ xx, WordOp (.addIxXx xx) s .ix (addRef s.ix (wordIn false s (xxReg xx)) false).1
        { c := (addRef s.ix (wordIn false s (xxReg xx)) false).2.c }) ∧
      (∀ yy, WordOp (.addIyYy yy) s .iy (addRef s.iy (wordIn false s (yyReg yy)) false).1
        { c := (addRef s.iy (wordIn false s (yyReg yy)) false).2.c }) ∧
      ∀ d, WordOp (.addSpD d) s .sp (BitVec.ofInt 16 (s.sp.toNat + d.toInt))
        { c := (addRef s.sp (d.signExtend 16) false).2.c }

/-- AND and OR with DE write the bitwise result with S, Z and the logical check of it and clear C; BOOL writes 1 or 0
and clears L/V and C. The model's choice (DESIGN CHOICE) where the rules refuse: after IOI or IOE each form executes
normally, without an I/O access (log 14). The flag formulas are PRESUMED (log 26).
Cites 42_arith16.md R250, 42_arith16.md R257, 42_arith16.md R263. -/
def Obligations.WordLogic : Prop :=
  ∀ s : State, ∀ x ∈ [((.pair .hl : WordReg), Instr.andHlDe, Instr.orHlDe, Instr.boolHl),
      (.ix, .andIxDe, .orIxDe, .boolIx), (.iy, .andIyDe, .orIyDe, .boolIy)],
    WordOp x.2.1 s x.1 (wordIn false s x.1 &&& wordIn false s (.pair .de))
        (logicRef (wordIn false s x.1 &&& wordIn false s (.pair .de)) false) ∧
      WordOp x.2.2.1 s x.1 (wordIn false s x.1 ||| wordIn false s (.pair .de))
        (logicRef (wordIn false s x.1 ||| wordIn false s (.pair .de)) false) ∧
      WordOp x.2.2.2 s x.1 (BitVec.ofNat 16 (if (wordIn false s x.1).toNat = 0 then 0 else 1))
        { s := false, z := decide ((wordIn false s x.1).toNat = 0), lv := false, c := false }

/-- RL DE doubles DE and moves the main carry in, C gets bit 15; RR halves the register and moves the main carry into
bit 15, C gets bit 0; S, Z and L/V are those of the result. The model's choice (DESIGN CHOICE) where the rules refuse:
after IOI or IOE each form executes normally, without an I/O access (log 14). The flag formulas are PRESUMED (log 26).
Cites 42_arith16.md R250, 42_arith16.md R273, 42_arith16.md R274. -/
def Obligations.WordRotates : Prop :=
  ∀ s : State,
    WordOp .rlDe s (.pair .de) (BitVec.ofNat 16 (2 * (wordIn false s (.pair .de)).toNat + (flagC s.main.f).toNat))
        (logicRef (BitVec.ofNat 16 (2 * (wordIn false s (.pair .de)).toNat + (flagC s.main.f).toNat))
          (decide (32768 ≤ (wordIn false s (.pair .de)).toNat))) ∧
      ∀ x ∈ [(Instr.rrDe, (.pair .de : WordReg)), (.rrHl, .pair .hl), (.rrIx, .ix), (.rrIy, .iy)],
        WordOp x.1 s x.2 (BitVec.ofNat 16 ((wordIn false s x.2).toNat / 2 + 32768 * (flagC s.main.f).toNat))
          (logicRef (BitVec.ofNat 16 ((wordIn false s x.2).toNat / 2 + 32768 * (flagC s.main.f).toNat))
            (decide ((wordIn false s x.2).toNat % 2 = 1)))

/-- INC and DEC of IX, IY and ss wrap modulo 2^16 and write no flag; under ALTD ss' receives the result, and INC SP
and DEC SP are refused, since SP has no alternate (log 15). MUL leaves in HL:BC, taken as one signed 32-bit number,
exactly the product of BC and DE. The model's choice (DESIGN CHOICE) where the rules refuse: after ALTD INC and DEC of
IX and IY and MUL (log 13), and after IOI or IOE all forms (log 14), execute normally.
Cites 42_arith16.md R250, 42_arith16.md R268, 42_arith16.md R271, 42_arith16.md R272, 45_prefix_block.md R439. -/
def Obligations.WordIncDecMultiply : Prop :=
  ∀ s : State,
    WordSet .incIx s false false .ix (BitVec.ofNat 16 (s.ix.toNat + 1)) ∧
      WordSet .incIy s false false .iy (BitVec.ofNat 16 (s.iy.toNat + 1)) ∧
      WordSet .decIx s false false .ix (BitVec.ofNat 16 (s.ix.toNat + 65535)) ∧
      WordSet .decIy s false false .iy (BitVec.ofNat 16 (s.iy.toNat + 65535)) ∧
      (∀ ss, (ss = .sp → s.altd = false) →
        WordSet (.incSs ss) s false s.altd (ssReg ss) (BitVec.ofNat 16 ((wordIn false s (ssReg ss)).toNat + 1)) ∧
        WordSet (.decSs ss) s false s.altd (ssReg ss) (BitVec.ofNat 16 ((wordIn false s (ssReg ss)).toNat + 65535))) ∧
      (s.altd = true → exec (.incSs .sp) s = .refused .altdSp ∧ exec (.decSs .sp) s = .refused .altdSp) ∧
      Completes .mul s false none [.main .b, .main .c, .main .h, .main .l] fun t =>
        (wordIn false t (.pair .hl) ++ wordIn false t (.pair .bc)).toInt =
          (wordIn false s (.pair .bc)).toInt * (wordIn false s (.pair .de)).toInt ∧ MemKept s t

/-- LD IX,mn; LD IY,mn; LD dd,mn; LD r,n; LD r,g; LD HL,IX; LD HL,IY; LD IX,HL; LD IY,HL and the three privileged LD
SP write their destination, the alternate one where the rule is marked R and ALTD precedes, and change nothing else.
LD SP,mn after ALTD is refused, since SP has no alternate (log 15). LD r,r without ALTD changes nothing. The model's
choice (DESIGN CHOICE) where the rules refuse: after ALTD the forms without an ALTD mark (log 13) and after IOI or IOE
all forms (log 14) execute normally.
Cites 40_load_store.md R140, 40_load_store.md R144, 40_load_store.md R145, 41_move_exchange_stack.md R200,
41_move_exchange_stack.md R217, 45_prefix_block.md R439. -/
def Obligations.ImmediatesAndMoves : Prop :=
  ∀ s : State,
    (∀ mn, WordSet (.ldIxMn mn) s false false .ix mn ∧ WordSet (.ldIyMn mn) s false false .iy mn ∧
        (s.altd = true → exec (.ldDdMn .sp mn) s = .refused .altdSp) ∧
        ∀ dd, (dd = .sp → s.altd = false) → WordSet (.ldDdMn dd mn) s false s.altd (ssReg dd) mn) ∧
      (∀ r n, ByteSet (.ldRN r n) s false s.altd r n) ∧
      (∀ r g, ByteSet (.ldRG r g) s false s.altd r (s.main.get g)) ∧
      (∀ r, s.altd = false → Completes (.ldRG r r) s false none [] fun t => MemKept s t) ∧
      WordSet .ldHlIx s false s.altd (.pair .hl) s.ix ∧ WordSet .ldHlIy s false s.altd (.pair .hl) s.iy ∧
      WordSet .ldIxHl s false false .ix (wordIn false s (.pair .hl)) ∧
      WordSet .ldIyHl s false false .iy (wordIn false s (.pair .hl)) ∧
      WordSet .ldSpHl s true false .sp (wordIn false s (.pair .hl)) ∧
      WordSet .ldSpIx s true false .sp s.ix ∧ WordSet .ldSpIy s true false .sp s.iy

/-- LD XPC,A and LD A,XPC are privileged and write no flag; LD IIR,A and LD EIR,A write no flag; LD A,IIR and LD A,EIR
also write S and Z from the byte loaded (log 24), in F' under ALTD. The model's choice (DESIGN CHOICE) where the rules
refuse: after ALTD LD XPC,A, LD IIR,A and LD EIR,A (log 13), and after IOI or IOE all six (log 14), execute normally.
The flags of log 24 are PRESUMED.
Cites 41_move_exchange_stack.md R200, 41_move_exchange_stack.md R202, 41_move_exchange_stack.md R204,
41_move_exchange_stack.md R216. -/
def Obligations.ControlRegisterMoves : Prop :=
  ∀ s : State,
    ByteSet .ldAXpc s true s.altd .a s.xpc ∧
      (Completes .ldXpcA s true none [.xpc] fun t => t.xpc = s.main.a ∧ MemKept s t) ∧
      (Completes .ldIirA s false none [.iir] fun t => t.iir = s.main.a ∧ MemKept s t) ∧
      (Completes .ldEirA s false none [.eir] fun t => t.eir = s.main.a ∧ MemKept s t) ∧
      ByteOp .ldAIir s .a s.iir { s := decide (128 ≤ s.iir.toNat), z := decide (s.iir.toNat = 0) } ∧
      ByteOp .ldAEir s .a s.eir { s := decide (128 ≤ s.eir.toNat), z := decide (s.eir.toNat = 0) }

/-- LD dd',BC and LD dd',DE copy to the alternate register; EX AF,AF' swaps A and F; EXX swaps the other six; EX DE,HL
swaps DE with HL, or under ALTD with HL'; EX DE',HL swaps DE' with HL, or under ALTD with HL'. Everything else stays.
The model's choice (DESIGN CHOICE) where the rules refuse: after ALTD LD dd', EX AF,AF' and EXX (log 13), and after
IOI or IOE all six (log 14), execute normally.
Cites 10_state.md R33, 41_move_exchange_stack.md R221, 41_move_exchange_stack.md R222, 41_move_exchange_stack.md R223,
41_move_exchange_stack.md R224. -/
def Obligations.BankTransfers : Prop :=
  ∀ s : State,
    (∀ da, WordSet (.ldAltDdBc da) s false true (.pair (altPair da)) (wordIn false s (.pair .bc)) ∧
        WordSet (.ldAltDdDe da) s false true (.pair (altPair da)) (wordIn false s (.pair .de))) ∧
      (Completes .exAfAltAf s false none [.main .a, .mainF, .alt .a, .altF] fun t =>
        t.main.a = s.alt.a ∧ t.main.f = s.alt.f ∧ t.alt.a = s.main.a ∧ t.alt.f = s.main.f ∧ MemKept s t) ∧
      (Completes .exx s false none ([.b, .c, .d, .e, .h, .l].flatMap fun r => [.main r, .alt r]) fun t =>
        (∀ r, r ≠ .a → t.main.get r = s.alt.get r ∧ t.alt.get r = s.main.get r) ∧ MemKept s t) ∧
      (Completes .exDeHl s false none ([.main .d, .main .e] ++ wordPieces s.altd (.pair .hl)) fun t =>
        wordIn false t (.pair .de) = wordIn s.altd s (.pair .hl) ∧
          wordIn s.altd t (.pair .hl) = wordIn false s (.pair .de) ∧ MemKept s t) ∧
      Completes .exAltDeHl s false none ([.alt .d, .alt .e] ++ wordPieces s.altd (.pair .hl)) fun t =>
        wordIn true t (.pair .de) = wordIn s.altd s (.pair .hl) ∧
          wordIn s.altd t (.pair .hl) = wordIn true s (.pair .de) ∧ MemKept s t

/-- Each byte load completes where the byte is readable, or with the oracle's answer under an I/O selection (for LD
r,(HL) also the remembered one, the model's choice of log 18), writes the register or its alternate, and changes
nothing else.
Cites 40_load_store.md R140, 40_load_store.md R141, 40_load_store.md R160, 45_prefix_block.md R434. -/
def Obligations.ByteLoads : Prop :=
  ∀ s : State,
    (∀ r, ByteLoad (.ldRAtHl r) s (space true s) (Place.addr s .hl) r) ∧
      (∀ r d, ByteLoad (.ldRAtIxd r d) s s.io (Place.addr s (.ixd d)) r) ∧
      (∀ r d, ByteLoad (.ldRAtIyd r d) s s.io (Place.addr s (.iyd d)) r) ∧
      ByteLoad .ldAAtBc s s.io (wordIn false s (.pair .bc)) .a ∧
      ByteLoad .ldAAtDe s s.io (wordIn false s (.pair .de)) .a ∧ ∀ mn, ByteLoad (.ldAAtMn mn) s s.io mn .a

/-- Each byte store completes, stores its byte at the effective address and leaves every other byte of memory and
every register; under an I/O selection (for LD (HL),r also the remembered one, the model's choice of log 18) it is one
recorded I/O write and memory is untouched. The model's choice (DESIGN CHOICE) where the rules refuse: after ALTD each
store executes normally (log 13). That a store takes effect whatever memory stands there is the model's choice (DESIGN
CHOICE, log 43).
Cites 40_load_store.md R140, 40_load_store.md R141, 40_load_store.md R159, 45_prefix_block.md R434. -/
def Obligations.ByteStores : Prop :=
  ∀ s : State,
    (∀ r, ByteStore (.ldAtHlR r) s (space true s) (Place.addr s .hl) (s.main.get r)) ∧
      (∀ n, ByteStore (.ldAtHlN n) s s.io (Place.addr s .hl) n) ∧
      (∀ d r, ByteStore (.ldAtIxdR d r) s s.io (Place.addr s (.ixd d)) (s.main.get r)) ∧
      (∀ d n, ByteStore (.ldAtIxdN d n) s s.io (Place.addr s (.ixd d)) n) ∧
      (∀ d r, ByteStore (.ldAtIydR d r) s s.io (Place.addr s (.iyd d)) (s.main.get r)) ∧
      (∀ d n, ByteStore (.ldAtIydN d n) s s.io (Place.addr s (.iyd d)) n) ∧
      ByteStore .ldAtBcA s s.io (wordIn false s (.pair .bc)) s.main.a ∧
      ByteStore .ldAtDeA s s.io (wordIn false s (.pair .de)) s.main.a ∧
      ∀ mn, ByteStore (.ldAtMnA mn) s s.io mn s.main.a

/-- Each word load completes where both bytes are readable, or with two answers of the oracle under the io latch, low
byte at the address and high byte at the next one modulo 2^16; LD HL,(HL+d) uses the old HL for both. LD SP,(mn) after
ALTD is refused, since SP has no alternate (log 15). The model's choice (DESIGN CHOICE) where the rules refuse: after
ALTD LD IX,(mn) and LD IY,(mn) execute normally (log 13).
Cites 40_load_store.md R140, 40_load_store.md R152, 40_load_store.md R155, 40_load_store.md R170, 20_memory.md R73,
45_prefix_block.md R439. -/
def Obligations.WordLoads : Prop :=
  ∀ s : State,
    (∀ mn, WordLoad (.ldHlAtMn mn) s mn (.pair .hl) ∧ WordLoad (.ldIxAtMn mn) s mn .ix ∧
        WordLoad (.ldIyAtMn mn) s mn .iy ∧ (s.altd = true → exec (.ldDdAtMn .sp mn) s = .refused .altdSp) ∧
        ∀ dd, (dd = .sp → s.altd = false) → WordLoad (.ldDdAtMn dd mn) s mn (ssReg dd)) ∧
      ∀ d, WordLoad (.ldHlAtHld d) s (wordIn false s (.pair .hl) + d.signExtend 16) (.pair .hl) ∧
        WordLoad (.ldHlAtIxd d) s (Place.addr s (.ixd d)) (.pair .hl) ∧
        WordLoad (.ldHlAtIyd d) s (Place.addr s (.iyd d)) (.pair .hl)

/-- Each word store completes, stores the low byte at the address and then the high byte at the next one, and leaves
every other byte and every register; under the io latch it is two recorded I/O writes and memory is untouched. The
model's choice (DESIGN CHOICE) where the rules refuse: after ALTD each store executes normally (log 13). That a store
takes effect whatever memory stands there is the model's choice (DESIGN CHOICE, log 43).
Cites 40_load_store.md R140, 40_load_store.md R148, 40_load_store.md R151, 40_load_store.md R169, 20_memory.md R72. -/
def Obligations.WordStores : Prop :=
  ∀ s : State,
    (∀ mn, WordStore (.ldAtMnHl mn) s mn (wordIn false s (.pair .hl)) ∧ WordStore (.ldAtMnIx mn) s mn s.ix ∧
        WordStore (.ldAtMnIy mn) s mn s.iy ∧ ∀ ss, WordStore (.ldAtMnSs mn ss) s mn (wordIn false s (ssReg ss))) ∧
      ∀ d, WordStore (.ldAtHldHl d) s (wordIn false s (.pair .hl) + d.signExtend 16) (wordIn false s (.pair .hl)) ∧
        WordStore (.ldAtIxdHl d) s (Place.addr s (.ixd d)) (wordIn false s (.pair .hl)) ∧
        WordStore (.ldAtIydHl d) s (Place.addr s (.iyd d)) (wordIn false s (.pair .hl))

/-- LD HL, IX, IY from and to (SP+n) use the address SP plus n taken as 0 to 255 modulo 2^16, two bytes, low byte
first, always in memory, an I/O latch or not (log 14, 32); SP is unchanged. The model's choice (DESIGN CHOICE) where
the rules refuse: after ALTD all forms but LD HL,(SP+n) (log 13), and after IOI or IOE all six (log 14), execute
normally. That a store takes effect whatever memory stands there is the model's choice (DESIGN CHOICE, log 43).
Cites 40_load_store.md R171, 40_load_store.md R174, 30_encoding.md R117, 20_memory.md R79. -/
def Obligations.StackFrame : Prop :=
  ∀ (s : State) (n : Byte),
    ∀ x ∈ [((.pair .hl : WordReg), Instr.ldHlAtSpn n, Instr.ldAtSpnHl n), (.ix, .ldIxAtSpn n, .ldAtSpnIx n),
      (.iy, .ldIyAtSpn n, .ldAtSpnIy n)],
    LoadsTwo x.2.1 s s.altd (s.phys (BitVec.ofNat 16 (s.sp.toNat + n.toNat)))
        (s.phys (BitVec.ofNat 16 (s.sp.toNat + n.toNat + 1))) x.1 ∧
      StoresTwo x.2.2 s (s.phys (BitVec.ofNat 16 (s.sp.toNat + n.toNat)))
        (s.phys (BitVec.ofNat 16 (s.sp.toNat + n.toNat + 1))) (wordIn false s x.1)

/-- LDP loads and stores move two bytes at the 20-bit address A mod 16 times 65536 plus HL, IX, IY or mn, and at the
following 20-bit address (carrying into the top bits, the model's choice of log 21), without translation, whatever
XPC, the MMU state and the latches are. The model's choice (DESIGN CHOICE) where the rules refuse: after ALTD (log 13)
and after IOI or IOE (log 14) each form executes normally. That a store takes effect whatever memory stands there is
the model's choice (DESIGN CHOICE, log 43).
Cites 20_memory.md R75, 40_load_store.md R181, 40_load_store.md R187. -/
def Obligations.PhysicalAccess : Prop :=
  ∀ s : State,
    (∀ x ∈ [(Instr.ldpHlAtHl, Instr.ldpAtHlHl, wordIn false s (.pair .hl)), (.ldpHlAtIx, .ldpAtIxHl, s.ix),
        (.ldpHlAtIy, .ldpAtIyHl, s.iy)],
      LoadsTwo x.1 s false (ldpRef s x.2.2) (ldpRef s x.2.2 + 1) (.pair .hl) ∧
        StoresTwo x.2.1 s (ldpRef s x.2.2) (ldpRef s x.2.2 + 1) (wordIn false s (.pair .hl))) ∧
      ∀ mn, ∀ x ∈ [(Instr.ldpHlAtMn mn, Instr.ldpAtMnHl mn, (.pair .hl : WordReg)), (.ldpIxAtMn mn, .ldpAtMnIx mn, .ix),
        (.ldpIyAtMn mn, .ldpAtMnIy mn, .iy)],
        LoadsTwo x.1 s false (ldpRef s mn) (ldpRef s mn + 1) x.2.2 ∧
          StoresTwo x.2.1 s (ldpRef s mn) (ldpRef s mn + 1) (wordIn false s x.2.2)

/-- Where the two bytes at SP are readable, the exchange completes: the register (HL' under ALTD for the HL form) gets
them, the old main register is stored low byte first in their place, SP and every other byte are unchanged. The
model's choice (DESIGN CHOICE) where the rules refuse: after ALTD EX (SP),IX and EX (SP),IY (log 13), and after IOI or
IOE all three (log 14), execute normally. That a store takes effect whatever memory stands there is the model's choice
(DESIGN CHOICE, log 43).
Cites 41_move_exchange_stack.md R201, 41_move_exchange_stack.md R218, 41_move_exchange_stack.md R219,
41_move_exchange_stack.md R220. -/
def Obligations.ExchangeTopOfStack : Prop :=
  ∀ s : State, ExchangesTop .exAtSpHl s s.altd (.pair .hl) ∧ ExchangesTop .exAtSpIx s false .ix ∧
    ExchangesTop .exAtSpIy s false .iy

/-- PUSH stores the high byte at SP-1 and the low byte at SP-2 and moves SP down by two; POP reads them back and moves
SP up by two; PUSH IP and POP IP move one byte, and POP IP is privileged. POP zz writes the alternate pair under ALTD,
POP AF all eight bits of F. Every other byte and register is unchanged. The model's choice (DESIGN CHOICE) where the
rules refuse: after ALTD the pushes and POP IX, IY and IP (log 13), and after IOI or IOE all forms (log 14), execute
normally. That a store takes effect whatever memory stands there is the model's choice (DESIGN CHOICE, log 43).
Cites 41_move_exchange_stack.md R201, 41_move_exchange_stack.md R225, 41_move_exchange_stack.md R228,
41_move_exchange_stack.md R229, 41_move_exchange_stack.md R232. -/
def Obligations.PushPop : Prop :=
  ∀ s : State,
    (∀ x ∈ [(Instr.pushIx, (.ix : WordReg)), (.pushIy, .iy), (.pushZz .bc, .pair .bc), (.pushZz .de, .pair .de),
        (.pushZz .hl, .pair .hl), (.pushZz .af, .pair .af)],
      Completes x.1 s false none [.sp] fun t => PushedWord (wordIn false s x.2) s t) ∧
      (Completes .pushIp s false none [.sp] fun t => t.sp = s.sp - 1 ∧ StoredByte none (s.sp - 1) s.ip s t) ∧
      (∀ l h, s.byteAt s.sp = some l → s.byteAt (s.sp + 1) = some h →
        ∀ x ∈ [(Instr.popIx, (.ix : WordReg)), (.popIy, .iy), (.popZz .bc, .pair .bc), (.popZz .de, .pair .de),
          (.popZz .hl, .pair .hl), (.popZz .af, .pair .af)],
        Completes x.1 s false none (.sp :: wordPieces s.altd x.2) fun t =>
          wordIn s.altd t x.2 = h ++ l ∧ t.sp = s.sp + 2 ∧ MemKept s t) ∧
      ∀ v, s.byteAt s.sp = some v → Completes .popIp s true none [.sp, .ip] fun t =>
        t.ip = v ∧ t.sp = s.sp + 1 ∧ MemKept s t

/-- With SP-1 and SP-2 at different physical bytes, PUSH of BC, DE, HL, AF, IX or IY followed by POP of any of the six
leaves the pushed value in the second register and SP as before the push. It holds whatever the latches are: the
model's choice (DESIGN CHOICE) where the rules refuse: after ALTD (log 13) and after IOI or IOE (log 14) PUSH executes
normally. That a store takes effect whatever memory stands there is the model's choice (DESIGN CHOICE, log 43).
Cites 41_move_exchange_stack.md R201, 41_move_exchange_stack.md R226, 41_move_exchange_stack.md R227,
41_move_exchange_stack.md R228, 41_move_exchange_stack.md R230, 41_move_exchange_stack.md R231,
41_move_exchange_stack.md R232. -/
def Obligations.PushThenPop : Prop :=
  ∀ s : State, s.phys (s.sp - 1) ≠ s.phys (s.sp - 2) → ∀ x ∈ stackWords, ∀ y ∈ stackWords,
    ∃ t u, exec x.1 s = .next t ∧ exec y.2.1 t = .next u ∧ wordIn false u y.2.2 = wordIn false s x.2.2 ∧ u.sp = s.sp

/-- ALTD sets altd and hold and keeps the other latches. IOI and IOE, where io is clear, set io and hold, keep altd
and clear the remembered selection; where io is already set they are refused (log 17). Nothing else changes. That ALTD
keeps the remembered selection and IOI and IOE clear it is the model's choice (DESIGN CHOICE, log 18).
Cites 45_prefix_block.md R430, 45_prefix_block.md R432, 45_prefix_block.md R433, 45_prefix_block.md R435,
45_prefix_block.md R436. -/
def Obligations.LatchSetters : Prop :=
  ∀ s : State,
    exec .altd s = .next { s with altd := true, hold := true } ∧
      ∀ x ∈ [(Instr.ioi, IoSpace.internal), (.ioe, .external)],
        (s.io = none → exec x.1 s = .next { s with io := some x.2, hold := true, iobug := none }) ∧
          (s.io ≠ none → exec x.1 s = .refused .secondIoPrefix)

/-- Where the byte at HL is readable, LDI and LDD store it at DE, in I/O under the io latch while the read stays in
memory, move HL and DE by one up or down and BC by one down modulo 2^16, and write L/V as "the new BC is not zero"
(PRESUMED, log 22) and no other flag. The model's choice (DESIGN CHOICE) where the rules refuse: after ALTD each form
executes normally (log 13). That a store takes effect whatever memory stands there is the model's choice (DESIGN
CHOICE, log 43).
Cites 45_prefix_block.md R440, 45_prefix_block.md R442, 45_prefix_block.md R434. -/
def Obligations.BlockMoveOne : Prop :=
  ∀ (up : Bool) (s : State) (v : Byte), s.byteAt (wordIn false s (.pair .hl)) = some v →
    Completes (moveOne up) s false s.io (blockPieces ++ ioPieces) fun t =>
      wordIn false t (.pair .bc) = BitVec.ofNat 16 ((wordIn false s (.pair .bc)).toNat + 65535) ∧
        wordIn false t (.pair .de) = blockAddr up (wordIn false s (.pair .de)) 1 ∧
        wordIn false t (.pair .hl) = blockAddr up (wordIn false s (.pair .hl)) 1 ∧
        FlagsBecome { lv := decide ((wordIn false s (.pair .bc)).toNat ≠ 1) } s.main.f t.main.f ∧
        StoredByte s.io (wordIn false s (.pair .de)) v s t ∧
        around t = (around s).write s.io (wordIn false s (.pair .de)) v

/-- Where every source byte is readable, at the place that the MMU state of its moment gives it, LDIR and LDDR
complete as one instruction: BC is 0, HL and DE have moved by the count up or down, L/V is 0 (PRESUMED, log 22), no
other flag changes, and every byte of memory but the counted ones from DE on is as before. Under the io latch all of
memory is, and the trace gets exactly one I/O write for each byte, in order, at the successive addresses from DE on
with the source bytes as values; the MMU state is what the oracle makes of it (log 7). The count is BC, and 65536 for
BC = 0 (the model's choice, DESIGN CHOICE, log 20). The model's choice (DESIGN CHOICE) where the rules refuse: after
ALTD each form executes normally (log 13).
Cites 45_prefix_block.md R434, 45_prefix_block.md R441, 45_prefix_block.md R443, 20_memory.md R78. -/
def Obligations.BlockMoveAll : Prop :=
  ∀ (up : Bool) (s : State) (v : Nat → Byte), SourceBytes up s v →
    Completes (moveAll up) s false s.io (blockPieces ++ [.ioTrace, .mmu, .mmuIn]) fun t =>
      wordIn false t (.pair .bc) = 0 ∧
        wordIn false t (.pair .de) = blockAddr up (wordIn false s (.pair .de)) (moveCount s) ∧
        wordIn false t (.pair .hl) = blockAddr up (wordIn false s (.pair .hl)) (moveCount s) ∧
        FlagsBecome { lv := false } s.main.f t.main.f ∧
        (∀ p, (∀ k, s.io = none → k < moveCount s → p ≠ s.phys (blockAddr up (wordIn false s (.pair .de)) k)) →
          t.physByte p = s.physByte p) ∧
        t.ioTrace = s.ioTrace ++ blockTrace up s v ∧ t.mmu = mmuDuring s (moveCount s) ∧
        t.mmuIn = (if s.io = none then s.mmuIn else s.mmuIn.drop (moveCount s))

/-- LDIR and LDDR have exactly the outcome of the one-byte move executed the counted number of times, each time under
the io latch that the whole instruction has: overlapping ranges are copied byte by byte in order, the I/O writes come
one after the other, and it stops where that stops. The count for BC = 0 is 65536, the model's choice (DESIGN CHOICE,
log 20). The model's choice (DESIGN CHOICE) where the rules refuse: after ALTD each form executes normally (log 13).
Cites 45_prefix_block.md R434, 45_prefix_block.md R441, 45_prefix_block.md R443. -/
def Obligations.BlockMoveRepeats : Prop :=
  ∀ (up : Bool) (s : State), exec (moveAll up) s = execTimes s.io (moveOne up) (moveCount s) s

/-- Each jump sets PC to its target and changes nothing else; a conditional one only where its condition on the main F
holds; a relative target is the signed stored byte added to the address of the next instruction; DJNZ writes B - 1 to
B, or B' under ALTD, and jumps where that is not zero (log 30). The model's choice (DESIGN CHOICE) where the rules
refuse: after ALTD the jumps but DJNZ (log 13), and after IOI or IOE all of them (log 14), execute normally.
Cites 10_state.md R42, 46_control_misc.md R450, 46_control_misc.md R451, 46_control_misc.md R452, 46_control_misc.md
R455. -/
def Obligations.JumpTargets : Prop :=
  ∀ s : State,
    (∀ mn, Jumps (.jpMn mn) s mn) ∧ Jumps .jpAtHl s (wordIn false s (.pair .hl)) ∧ Jumps .jpAtIx s s.ix ∧
      Jumps .jpAtIy s s.iy ∧ (∀ e, Jumps (.jrE e) s (relRef s e)) ∧
      (∀ f mn, (condRef s.main.f f → Jumps (.jpFMn f mn) s mn) ∧
        (¬condRef s.main.f f → Jumps (.jpFMn f mn) s s.pc)) ∧
      (∀ cc e, (condRef s.main.f (ccRef cc) → Jumps (.jrCcE cc e) s (relRef s e)) ∧
        (¬condRef s.main.f (ccRef cc) → Jumps (.jrCcE cc e) s s.pc)) ∧
      ∀ e, Completes (.djnzE e) s false none [regPiece s.altd .b, .pc] fun t =>
        (bankOf s.altd t).b = BitVec.ofNat 8 (s.main.b.toNat + 255) ∧
          t.pc = (if s.main.b.toNat = 1 then s.pc else relRef s e) ∧ MemKept s t

/-- For each code f of 0 to 7 the bytes of JP f,mn and RET f, and for f below 4 those of JR cc,e, decode to an
instruction that jumps or returns exactly where the flag of the code (Z, C, L/V, S for f/2 = 0, 1, 2, 3) of the main F
equals f mod 2, whether ALTD precedes or not, and otherwise changes nothing. The model's choice (DESIGN CHOICE) where
the rules refuse: after ALTD (log 13) and after IOI or IOE (log 14) each of these instructions executes normally.
Cites 10_state.md R42, 30_encoding.md R115. -/
def Obligations.ConditionCodes : Prop :=
  ∀ (s : State) (k : BitVec 3) (n m e : Byte), ∃ ij ir,
    decode [3#2 ++ k ++ 2#3, n, m] = .ok ij 3 ∧ decode [3#2 ++ k ++ 0#3] = .ok ir 1 ∧
      Jumps ij s (if codeTrue k.toNat s.main.f then m ++ n else s.pc) ∧
      (codeTrue k.toNat s.main.f = false → Completes ir s false none [] fun t => MemKept s t) ∧
      (∀ l h, s.byteAt s.sp = some l → s.byteAt (s.sp + 1) = some h → codeTrue k.toNat s.main.f = true →
        Completes ir s false none [.pc, .sp] fun t => t.pc = h ++ l ∧ t.sp = s.sp + 2 ∧ MemKept s t) ∧
      (k.toNat < 4 → ∃ i, decode [1#3 ++ k.setWidth 2 ++ 0#3, e] = .ok i 2 ∧
        Jumps i s (if codeTrue k.toNat s.main.f then relRef s e else s.pc))

/-- CALL pushes the return address and jumps; RST does the same to IIR times 256 plus v times 16; LCALL pushes XPC, PC
high and PC low with the old XPC, moves SP by three and loads XPC and PC; LJP loads XPC and PC. Every other byte and
register is unchanged. The model's choice (DESIGN CHOICE) where the rules refuse: after ALTD (log 13) and after IOI or
IOE (log 14) each of the four executes normally. That a store takes effect whatever memory stands there is the model's
choice (DESIGN CHOICE, log 43).
Cites 46_control_misc.md R454, 46_control_misc.md R463, 46_control_misc.md R464, 46_control_misc.md R469,
60_exceptions.md R502. -/
def Obligations.CallsAndRestarts : Prop :=
  ∀ s : State,
    (∀ mn, Calls (.callMn mn) s mn) ∧
      (∀ v, restartCode v = true → Calls (.rstV v) s (BitVec.ofNat 16 (s.iir.toNat * 256 + v.toNat * 16))) ∧
      (∀ x mn, Completes (.ljpXMn x mn) s false none [.pc, .xpc] fun t => t.pc = mn ∧ t.xpc = x ∧ MemKept s t) ∧
      ∀ x mn, Completes (.lcallXMn x mn) s false none [.pc, .sp, .xpc] fun t =>
        t.pc = mn ∧ t.xpc = x ∧ t.sp = s.sp - 3 ∧
          t.physByte (s.phys (s.sp - 3)) = some (s.pc.extractLsb' 0 8) ∧
          (s.phys (s.sp - 2) ≠ s.phys (s.sp - 3) →
            t.physByte (s.phys (s.sp - 2)) = some (s.pc.extractLsb' 8 8)) ∧
          (s.phys (s.sp - 1) ≠ s.phys (s.sp - 2) → s.phys (s.sp - 1) ≠ s.phys (s.sp - 3) →
            t.physByte (s.phys (s.sp - 1)) = some s.xpc) ∧
          MemKeptOutside [s.phys (s.sp - 1), s.phys (s.sp - 2), s.phys (s.sp - 3)] s t

/-- RET pops PC; RET f does where its condition on the main F holds and otherwise touches nothing, not even memory;
LRET pops PC and XPC; RETI, privileged, pops IP and then PC. SP moves by two or three; memory and every other register
are unchanged. The model's choice (DESIGN CHOICE) where the rules refuse: after ALTD (log 13) and after IOI or IOE
(log 14) each return executes normally.
Cites 46_control_misc.md R465, 46_control_misc.md R466, 46_control_misc.md R467, 46_control_misc.md R468. -/
def Obligations.Returns : Prop :=
  ∀ s : State,
    (∀ f, ¬condRef s.main.f f → Completes (.retF f) s false none [] fun t => MemKept s t) ∧
      ∀ l h, s.byteAt s.sp = some l → s.byteAt (s.sp + 1) = some h →
        (∀ i, (i = .ret ∨ ∃ f, i = .retF f ∧ condRef s.main.f f) → Completes i s false none [.pc, .sp] fun t =>
          t.pc = h ++ l ∧ t.sp = s.sp + 2 ∧ MemKept s t) ∧
        ∀ x, s.byteAt (s.sp + 2) = some x →
          (Completes .lret s false none [.pc, .sp, .xpc] fun t =>
            t.pc = h ++ l ∧ t.xpc = x ∧ t.sp = s.sp + 3 ∧ MemKept s t) ∧
          Completes .reti s true none [.pc, .sp, .ip] fun t =>
            t.ip = l ∧ t.pc = x ++ h ∧ t.sp = s.sp + 3 ∧ MemKept s t

/-- IPSET p makes IP four times itself plus p modulo 256; IPRES rotates IP right by two bits; both set hold and change
nothing else; NOP changes nothing. The model's choice (DESIGN CHOICE) where the rules refuse: after ALTD (log 13) and
after IOI or IOE (log 14) each of these instructions executes normally.
Cites 46_control_misc.md R471, 46_control_misc.md R474, 46_control_misc.md R475, 46_control_misc.md R476, 10_state.md
R47. -/
def Obligations.PriorityInstructions : Prop :=
  ∀ s : State,
    (∀ x ∈ [(Instr.ipset0, 0), (.ipset1, 1), (.ipset2, 2), (.ipset3, 3)],
      Completes x.1 s true none [.ip] fun t => t.ip = BitVec.ofNat 8 (4 * s.ip.toNat + x.2) ∧ MemKept s t) ∧
      (Completes .ipres s true none [.ip] fun t =>
        t.ip = BitVec.ofNat 8 (s.ip.toNat / 4 + 64 * (s.ip.toNat % 4)) ∧ MemKept s t) ∧
      Completes .nop s false none [] fun t => MemKept s t

/-- If the three bytes below SP lie at different physical addresses, both under the old XPC and under the new one at
the same places, then LRET right after LCALL restores PC, XPC and SP for every far target. It holds whatever the
latches are: the model's choice (DESIGN CHOICE) where the rules refuse: after ALTD (log 13) and after IOI or IOE (log
14) LCALL executes normally. That a store takes effect whatever memory stands there is the model's choice (DESIGN
CHOICE, log 43).
Cites 46_control_misc.md R463, 46_control_misc.md R465. -/
def Obligations.LongCallReturns : Prop :=
  ∀ (s : State) (x : Byte) (mn : Word),
    (∀ k ∈ [1, 2, 3], translate (s.sp - BitVec.ofNat 16 k) x s.mmu = s.phys (s.sp - BitVec.ofNat 16 k)) →
    s.phys (s.sp - 1) ≠ s.phys (s.sp - 2) → s.phys (s.sp - 1) ≠ s.phys (s.sp - 3) →
    s.phys (s.sp - 2) ≠ s.phys (s.sp - 3) →
    ∃ t u, exec (.lcallXMn x mn) s = .next t ∧ exec .lret t = .next u ∧ u.pc = s.pc ∧ u.xpc = s.xpc ∧ u.sp = s.sp

/-- In a state that the end-of-run predicate accepts, a step answers a next state that differs at most in the hold and
remembered-I/O latches, which are clear, and every step after it leaves that state exactly as it is. That a run ends
there is the parameter EndOfRun, which the spec leaves open: the predicate is the model's choice after the spec's
default (DESIGN CHOICE, log 38), and so is the remembered-I/O latch (DESIGN CHOICE, log 18).
Cites 70_reset_and_hazards.md R549. -/
def Obligations.EndOfRunFixed : Prop :=
  ∀ s : State, EndOfRun s →
    ∃ t, step s = .next t ∧ t = { s with hold := false, iobug := none } ∧
      ∀ n, Sys2Proof.core.run n t = .next t

/-- The model's choice of Translate (PRESUMED, log entry 6): a logical address of E000h or more lies at itself plus
1000h times XPC modulo 2^20 whatever the MMU state, and a lower one at itself while the MMU state is the launch value.
Cites 20_memory.md R74. -/
def Obligations.WindowTranslation : Prop :=
  ∀ s : State,
    (∀ a : Word, 0xE000 ≤ a.toNat → (s.phys a).toNat = (a.toNat + s.xpc.toNat * 0x1000) % 2 ^ 20) ∧
      ∀ a : Word, a.toNat < 0xE000 → s.mmu = State.reset.mmu → (s.phys a).toNat = a.toNat

/-- After CB the second byte is two bits, three bits b and three bits r. With the two bits 01, 10, 11 it is BIT, RES,
SET of bit b, with 00 the shift or rotate that b selects (000 RLC, 001 RRC, 010 RL, 011 RR, 100 SLA, 101 SRA, 111 SRL,
110 undefined), of the register of code r, or of the byte at (HL) for r = 110. Every one is two bytes, whatever
follows.
Cites 30_encoding.md R103. -/
def Obligations.CbPage : Prop :=
  ∀ (b : BitVec 3) (rest : List Byte),
    (∀ r, decode (0xCB#8 :: (1#2 ++ b ++ registerCode r) :: rest) = .ok (.bitBR b r) 2 ∧
        decode (0xCB#8 :: (2#2 ++ b ++ registerCode r) :: rest) = .ok (.resBR b r) 2 ∧
        decode (0xCB#8 :: (3#2 ++ b ++ registerCode r) :: rest) = .ok (.setBR b r) 2) ∧
      decode (0xCB#8 :: (1#2 ++ b ++ 6#3) :: rest) = .ok (.bitBAtHl b) 2 ∧
      decode (0xCB#8 :: (2#2 ++ b ++ 6#3) :: rest) = .ok (.resBAtHl b) 2 ∧
      decode (0xCB#8 :: (3#2 ++ b ++ 6#3) :: rest) = .ok (.setBAtHl b) 2 ∧
      (∀ op, (∀ r, decode (0xCB#8 :: (0#2 ++ shiftCode op ++ registerCode r) :: rest) = .ok (shiftOnReg op r) 2) ∧
        decode (0xCB#8 :: (0#2 ++ shiftCode op ++ 6#3) :: rest) = .ok (shiftOnMem op .hl) 2) ∧
      decode (0xCB#8 :: (0#2 ++ 6#3 ++ b) :: rest) = .undefined
end

