-- ==== Sys2Proof/Laws/Flags.lean ====
section
/-! SUPPORT. The flags of a flags byte after named flags are written, and the halves of a word. -/

namespace Sys2Proof.Machine

/-- A bit written reads back, and every other bit keeps its value. -/
theorem getLsbD_putBit (f : Byte) {i j : Nat} (hi : i < 8) (hj : j < 8) (b : Bool) :
    (putBit f i b).getLsbD j = if j = i then b else f.getLsbD j := by
  unfold putBit
  interval_cases i <;> interval_cases j <;> cases b <;> simp

theorem getLsbD_putFlag (f : Byte) {i j : Nat} (hi : i < 8) (hj : j < 8) (v : Option Bool) :
    (putFlag i v f).getLsbD j = if j = i then v.getD (f.getLsbD j) else f.getLsbD j := by
  cases v with
  | none => simp [putFlag]
  | some b => simp only [putFlag, getLsbD_putBit f hi hj, Option.getD_some]

/-- A bit of F after a flag write: a flag has its named value if it has one, every other bit its old one. -/
theorem getLsbD_applyFlags (w : FlagWrite) (f : Byte) {i : Nat} (hi : i < 8) :
    (applyFlags w f).getLsbD i =
      if i = flagCBit then w.c.getD (f.getLsbD i)
      else if i = flagLVBit then w.lv.getD (f.getLsbD i)
      else if i = flagZBit then w.z.getD (f.getLsbD i)
      else if i = flagSBit then w.s.getD (f.getLsbD i)
      else f.getLsbD i := by
  have hs : flagSBit < 8 := by decide
  have hz : flagZBit < 8 := by decide
  have hl : flagLVBit < 8 := by decide
  have hc : flagCBit < 8 := by decide
  simp only [applyFlags, getLsbD_putFlag _ hc hi, getLsbD_putFlag _ hl hi, getLsbD_putFlag _ hz hi,
    getLsbD_putFlag _ hs hi]
  split_ifs <;> first | rfl | (subst i; contradiction)

theorem flagS_applyFlags (w : FlagWrite) (f : Byte) : flagS (applyFlags w f) = w.s.getD (flagS f) :=
  getLsbD_applyFlags w f (by decide)

theorem flagZ_applyFlags (w : FlagWrite) (f : Byte) : flagZ (applyFlags w f) = w.z.getD (flagZ f) :=
  getLsbD_applyFlags w f (by decide)

theorem flagLV_applyFlags (w : FlagWrite) (f : Byte) : flagLV (applyFlags w f) = w.lv.getD (flagLV f) :=
  getLsbD_applyFlags w f (by decide)

theorem flagC_applyFlags (w : FlagWrite) (f : Byte) : flagC (applyFlags w f) = w.c.getD (flagC f) :=
  getLsbD_applyFlags w f (by decide)

/-- The number of two adjoined bit vectors. -/
theorem toNat_adjoin {n m : Nat} (x : BitVec n) (y : BitVec m) : (x ++ y).toNat = x.toNat * 2 ^ m + y.toNat := by
  rw [BitVec.toNat_append, ← Nat.shiftLeft_add_eq_or_of_lt y.isLt, Nat.shiftLeft_eq]

theorem hi_pair (x y : Byte) : hi (pair x y) = x := by
  apply BitVec.eq_of_getLsbD_eq
  intro i h
  simp only [hi, pair, BitVec.getLsbD_append, BitVec.getLsbD_extractLsb']
  simp [h]

theorem lo_pair (x y : Byte) : lo (pair x y) = y := by
  apply BitVec.eq_of_getLsbD_eq
  intro i h
  simp only [lo, pair, BitVec.getLsbD_append, BitVec.getLsbD_extractLsb']
  simp [h]

theorem pair_hi_lo (w : Word) : pair (hi w) (lo w) = w := by
  apply BitVec.eq_of_getLsbD_eq
  intro i h
  simp only [hi, lo, pair, BitVec.getLsbD_append, BitVec.getLsbD_extractLsb']
  split
  · simp_all
  · simp_all
    omega

end Sys2Proof.Machine
end

