-- ==== Sys2Proof/Laws/Banks.lean ====
section
/-! SUPPORT. The registers of a bank: a write reads back, and leaves every other register alone. -/

namespace Sys2Proof.Machine

variable {k : Bank}

theorem get_set_same (r : Reg8) (v : Byte) : (k.set r v).get r = v := by cases r <;> rfl

theorem get_set_other {r q : Reg8} (h : q ≠ r) (v : Byte) : (k.set r v).get q = k.get q := by
  cases r <;> cases q <;> first | rfl | exact absurd rfl h

theorem set_f (r : Reg8) (v : Byte) : (k.set r v).f = k.f := by cases r <;> rfl

theorem setFlags_get (w : FlagWrite) (r : Reg8) : (k.setFlags w).get r = k.get r := by cases r <;> rfl

theorem setFlags_f (w : FlagWrite) : (k.setFlags w).f = applyFlags w k.f := rfl

theorem getPair_setPair_same (p : RegZz) (w : Word) : (k.setPair p w).getPair p = w := by
  cases p <;> exact pair_hi_lo w

theorem getPair_setPair_other {p q : RegZz} (h : q ≠ p) (w : Word) : (k.setPair p w).getPair q = k.getPair q := by
  cases p <;> cases q <;> first | rfl | exact absurd rfl h

/-- Two word registers of different names: writing one leaves the other. -/
theorem read_dst_other {r q : WordReg} (h : q ≠ r) (c : Ctx) (w : Word) (s : State) :
    q.read (r.dst c w s) = q.read s := by
  obtain ⟨a, io⟩ := c
  cases a <;> rcases r with (_ | _ | _ | _) | _ | _ | _ <;> rcases q with (_ | _ | _ | _) | _ | _ | _ <;>
    first | rfl | exact absurd rfl h

/-- Without ALTD a word register written reads back. -/
theorem read_dst_same (r : WordReg) (io : Option IoSpace) (w : Word) (s : State) :
    r.read (r.dst ⟨false, io⟩ w s) = w := by
  rcases r with (_ | _ | _ | _) | _ | _ | _ <;> first | rfl | exact pair_hi_lo w

end Sys2Proof.Machine
end

