-- ==== Sys2Proof/Laws/State.lean ====
section
/-! SUPPORT. What each shared update of the state leaves alone and what it writes, field by field. -/

namespace Sys2Proof.Machine

variable (s : State)

/-! ### `mapBank` -/

@[simp] theorem mapBank_ix (x : Bool) (g : Bank → Bank) : (s.mapBank x g).ix = s.ix := by cases x <;> rfl
@[simp] theorem mapBank_iy (x : Bool) (g : Bank → Bank) : (s.mapBank x g).iy = s.iy := by cases x <;> rfl
@[simp] theorem mapBank_sp (x : Bool) (g : Bank → Bank) : (s.mapBank x g).sp = s.sp := by cases x <;> rfl
@[simp] theorem mapBank_pc (x : Bool) (g : Bank → Bank) : (s.mapBank x g).pc = s.pc := by cases x <;> rfl
@[simp] theorem mapBank_xpc (x : Bool) (g : Bank → Bank) : (s.mapBank x g).xpc = s.xpc := by cases x <;> rfl
@[simp] theorem mapBank_ip (x : Bool) (g : Bank → Bank) : (s.mapBank x g).ip = s.ip := by cases x <;> rfl
@[simp] theorem mapBank_iir (x : Bool) (g : Bank → Bank) : (s.mapBank x g).iir = s.iir := by cases x <;> rfl
@[simp] theorem mapBank_eir (x : Bool) (g : Bank → Bank) : (s.mapBank x g).eir = s.eir := by cases x <;> rfl
@[simp] theorem mapBank_altd (x : Bool) (g : Bank → Bank) : (s.mapBank x g).altd = s.altd := by cases x <;> rfl
@[simp] theorem mapBank_io (x : Bool) (g : Bank → Bank) : (s.mapBank x g).io = s.io := by cases x <;> rfl
@[simp] theorem mapBank_hold (x : Bool) (g : Bank → Bank) : (s.mapBank x g).hold = s.hold := by cases x <;> rfl
@[simp] theorem mapBank_iobug (x : Bool) (g : Bank → Bank) : (s.mapBank x g).iobug = s.iobug := by cases x <;> rfl
@[simp] theorem mapBank_mem (x : Bool) (g : Bank → Bank) : (s.mapBank x g).mem = s.mem := by cases x <;> rfl
@[simp] theorem mapBank_mmu (x : Bool) (g : Bank → Bank) : (s.mapBank x g).mmu = s.mmu := by cases x <;> rfl
@[simp] theorem mapBank_mmuIn (x : Bool) (g : Bank → Bank) : (s.mapBank x g).mmuIn = s.mmuIn := by cases x <;> rfl
@[simp] theorem mapBank_ioIn (x : Bool) (g : Bank → Bank) : (s.mapBank x g).ioIn = s.ioIn := by cases x <;> rfl
@[simp] theorem mapBank_ioDraws (x : Bool) (g : Bank → Bank) : (s.mapBank x g).ioDraws = s.ioDraws := by cases x <;> rfl
@[simp] theorem mapBank_ioTrace (x : Bool) (g : Bank → Bank) : (s.mapBank x g).ioTrace = s.ioTrace := by cases x <;> rfl
@[simp] theorem mapBank_irq (x : Bool) (g : Bank → Bank) : (s.mapBank x g).irq = s.irq := by cases x <;> rfl

@[simp] theorem mapBank_main (x : Bool) (g : Bank → Bank) :
    (s.mapBank x g).main = if x then s.main else g s.main := by cases x <;> rfl
@[simp] theorem mapBank_alt (x : Bool) (g : Bank → Bank) :
    (s.mapBank x g).alt = if x then g s.alt else s.alt := by cases x <;> rfl

/-! ### `dst8` -/

@[simp] theorem dst8_ix (c : Ctx) (r : Reg8) (v : Byte) : (dst8 c r v s).ix = s.ix := by simp [dst8]
@[simp] theorem dst8_iy (c : Ctx) (r : Reg8) (v : Byte) : (dst8 c r v s).iy = s.iy := by simp [dst8]
@[simp] theorem dst8_sp (c : Ctx) (r : Reg8) (v : Byte) : (dst8 c r v s).sp = s.sp := by simp [dst8]
@[simp] theorem dst8_pc (c : Ctx) (r : Reg8) (v : Byte) : (dst8 c r v s).pc = s.pc := by simp [dst8]
@[simp] theorem dst8_xpc (c : Ctx) (r : Reg8) (v : Byte) : (dst8 c r v s).xpc = s.xpc := by simp [dst8]
@[simp] theorem dst8_ip (c : Ctx) (r : Reg8) (v : Byte) : (dst8 c r v s).ip = s.ip := by simp [dst8]
@[simp] theorem dst8_iir (c : Ctx) (r : Reg8) (v : Byte) : (dst8 c r v s).iir = s.iir := by simp [dst8]
@[simp] theorem dst8_eir (c : Ctx) (r : Reg8) (v : Byte) : (dst8 c r v s).eir = s.eir := by simp [dst8]
@[simp] theorem dst8_altd (c : Ctx) (r : Reg8) (v : Byte) : (dst8 c r v s).altd = s.altd := by simp [dst8]
@[simp] theorem dst8_io (c : Ctx) (r : Reg8) (v : Byte) : (dst8 c r v s).io = s.io := by simp [dst8]
@[simp] theorem dst8_hold (c : Ctx) (r : Reg8) (v : Byte) : (dst8 c r v s).hold = s.hold := by simp [dst8]
@[simp] theorem dst8_iobug (c : Ctx) (r : Reg8) (v : Byte) : (dst8 c r v s).iobug = s.iobug := by simp [dst8]
@[simp] theorem dst8_mem (c : Ctx) (r : Reg8) (v : Byte) : (dst8 c r v s).mem = s.mem := by simp [dst8]
@[simp] theorem dst8_mmu (c : Ctx) (r : Reg8) (v : Byte) : (dst8 c r v s).mmu = s.mmu := by simp [dst8]
@[simp] theorem dst8_mmuIn (c : Ctx) (r : Reg8) (v : Byte) : (dst8 c r v s).mmuIn = s.mmuIn := by simp [dst8]
@[simp] theorem dst8_ioIn (c : Ctx) (r : Reg8) (v : Byte) : (dst8 c r v s).ioIn = s.ioIn := by simp [dst8]
@[simp] theorem dst8_ioDraws (c : Ctx) (r : Reg8) (v : Byte) : (dst8 c r v s).ioDraws = s.ioDraws := by simp [dst8]
@[simp] theorem dst8_ioTrace (c : Ctx) (r : Reg8) (v : Byte) : (dst8 c r v s).ioTrace = s.ioTrace := by simp [dst8]
@[simp] theorem dst8_irq (c : Ctx) (r : Reg8) (v : Byte) : (dst8 c r v s).irq = s.irq := by simp [dst8]

@[simp] theorem dst8_main (c : Ctx) (r : Reg8) (v : Byte) :
    (dst8 c r v s).main = if c.alt then s.main else s.main.set r v := by simp [dst8]
@[simp] theorem dst8_alt (c : Ctx) (r : Reg8) (v : Byte) :
    (dst8 c r v s).alt = if c.alt then s.alt.set r v else s.alt := by simp [dst8]

/-! ### `setFlags` -/

@[simp] theorem setFlags_ix (c : Ctx) (w : FlagWrite) : (setFlags c w s).ix = s.ix := by simp [setFlags]
@[simp] theorem setFlags_iy (c : Ctx) (w : FlagWrite) : (setFlags c w s).iy = s.iy := by simp [setFlags]
@[simp] theorem setFlags_sp (c : Ctx) (w : FlagWrite) : (setFlags c w s).sp = s.sp := by simp [setFlags]
@[simp] theorem setFlags_pc (c : Ctx) (w : FlagWrite) : (setFlags c w s).pc = s.pc := by simp [setFlags]
@[simp] theorem setFlags_xpc (c : Ctx) (w : FlagWrite) : (setFlags c w s).xpc = s.xpc := by simp [setFlags]
@[simp] theorem setFlags_ip (c : Ctx) (w : FlagWrite) : (setFlags c w s).ip = s.ip := by simp [setFlags]
@[simp] theorem setFlags_iir (c : Ctx) (w : FlagWrite) : (setFlags c w s).iir = s.iir := by simp [setFlags]
@[simp] theorem setFlags_eir (c : Ctx) (w : FlagWrite) : (setFlags c w s).eir = s.eir := by simp [setFlags]
@[simp] theorem setFlags_altd (c : Ctx) (w : FlagWrite) : (setFlags c w s).altd = s.altd := by simp [setFlags]
@[simp] theorem setFlags_io (c : Ctx) (w : FlagWrite) : (setFlags c w s).io = s.io := by simp [setFlags]
@[simp] theorem setFlags_hold (c : Ctx) (w : FlagWrite) : (setFlags c w s).hold = s.hold := by simp [setFlags]
@[simp] theorem setFlags_iobug (c : Ctx) (w : FlagWrite) : (setFlags c w s).iobug = s.iobug := by simp [setFlags]
@[simp] theorem setFlags_mem (c : Ctx) (w : FlagWrite) : (setFlags c w s).mem = s.mem := by simp [setFlags]
@[simp] theorem setFlags_mmu (c : Ctx) (w : FlagWrite) : (setFlags c w s).mmu = s.mmu := by simp [setFlags]
@[simp] theorem setFlags_mmuIn (c : Ctx) (w : FlagWrite) : (setFlags c w s).mmuIn = s.mmuIn := by simp [setFlags]
@[simp] theorem setFlags_ioIn (c : Ctx) (w : FlagWrite) : (setFlags c w s).ioIn = s.ioIn := by simp [setFlags]
@[simp] theorem setFlags_ioDraws (c : Ctx) (w : FlagWrite) : (setFlags c w s).ioDraws = s.ioDraws := by simp [setFlags]
@[simp] theorem setFlags_ioTrace (c : Ctx) (w : FlagWrite) : (setFlags c w s).ioTrace = s.ioTrace := by simp [setFlags]
@[simp] theorem setFlags_irq (c : Ctx) (w : FlagWrite) : (setFlags c w s).irq = s.irq := by simp [setFlags]

@[simp] theorem setFlags_main (c : Ctx) (w : FlagWrite) :
    (setFlags c w s).main = if c.alt then s.main else s.main.setFlags w := by simp [setFlags]
@[simp] theorem setFlags_alt (c : Ctx) (w : FlagWrite) :
    (setFlags c w s).alt = if c.alt then s.alt.setFlags w else s.alt := by simp [setFlags]

/-! ### `wordDst` -/

@[simp] theorem wordDst_pc (c : Ctx) (r : WordReg) (w : Word) : (r.dst c w s).pc = s.pc := by cases r <;> simp [WordReg.dst]
@[simp] theorem wordDst_xpc (c : Ctx) (r : WordReg) (w : Word) : (r.dst c w s).xpc = s.xpc := by cases r <;> simp [WordReg.dst]
@[simp] theorem wordDst_ip (c : Ctx) (r : WordReg) (w : Word) : (r.dst c w s).ip = s.ip := by cases r <;> simp [WordReg.dst]
@[simp] theorem wordDst_iir (c : Ctx) (r : WordReg) (w : Word) : (r.dst c w s).iir = s.iir := by cases r <;> simp [WordReg.dst]
@[simp] theorem wordDst_eir (c : Ctx) (r : WordReg) (w : Word) : (r.dst c w s).eir = s.eir := by cases r <;> simp [WordReg.dst]
@[simp] theorem wordDst_altd (c : Ctx) (r : WordReg) (w : Word) : (r.dst c w s).altd = s.altd := by cases r <;> simp [WordReg.dst]
@[simp] theorem wordDst_io (c : Ctx) (r : WordReg) (w : Word) : (r.dst c w s).io = s.io := by cases r <;> simp [WordReg.dst]
@[simp] theorem wordDst_hold (c : Ctx) (r : WordReg) (w : Word) : (r.dst c w s).hold = s.hold := by cases r <;> simp [WordReg.dst]
@[simp] theorem wordDst_iobug (c : Ctx) (r : WordReg) (w : Word) : (r.dst c w s).iobug = s.iobug := by cases r <;> simp [WordReg.dst]
@[simp] theorem wordDst_mem (c : Ctx) (r : WordReg) (w : Word) : (r.dst c w s).mem = s.mem := by cases r <;> simp [WordReg.dst]
@[simp] theorem wordDst_mmu (c : Ctx) (r : WordReg) (w : Word) : (r.dst c w s).mmu = s.mmu := by cases r <;> simp [WordReg.dst]
@[simp] theorem wordDst_mmuIn (c : Ctx) (r : WordReg) (w : Word) : (r.dst c w s).mmuIn = s.mmuIn := by cases r <;> simp [WordReg.dst]
@[simp] theorem wordDst_ioIn (c : Ctx) (r : WordReg) (w : Word) : (r.dst c w s).ioIn = s.ioIn := by cases r <;> simp [WordReg.dst]
@[simp] theorem wordDst_ioDraws (c : Ctx) (r : WordReg) (w : Word) : (r.dst c w s).ioDraws = s.ioDraws := by cases r <;> simp [WordReg.dst]
@[simp] theorem wordDst_ioTrace (c : Ctx) (r : WordReg) (w : Word) : (r.dst c w s).ioTrace = s.ioTrace := by cases r <;> simp [WordReg.dst]
@[simp] theorem wordDst_irq (c : Ctx) (r : WordReg) (w : Word) : (r.dst c w s).irq = s.irq := by cases r <;> simp [WordReg.dst]

@[simp] theorem wordDst_pair_main (c : Ctx) (p : RegZz) (w : Word) :
    (WordReg.dst c (.pair p) w s).main = if c.alt then s.main else s.main.setPair p w := by simp [WordReg.dst]
@[simp] theorem wordDst_pair_alt (c : Ctx) (p : RegZz) (w : Word) :
    (WordReg.dst c (.pair p) w s).alt = if c.alt then s.alt.setPair p w else s.alt := by simp [WordReg.dst]
@[simp] theorem wordDst_ix_main (c : Ctx) (w : Word) : (WordReg.dst c .ix w s).main = s.main := rfl
@[simp] theorem wordDst_ix_alt (c : Ctx) (w : Word) : (WordReg.dst c .ix w s).alt = s.alt := rfl
@[simp] theorem wordDst_ix_ix (c : Ctx) (w : Word) : (WordReg.dst c .ix w s).ix = w := rfl
@[simp] theorem wordDst_ix_iy (c : Ctx) (w : Word) : (WordReg.dst c .ix w s).iy = s.iy := rfl
@[simp] theorem wordDst_ix_sp (c : Ctx) (w : Word) : (WordReg.dst c .ix w s).sp = s.sp := rfl
@[simp] theorem wordDst_iy_main (c : Ctx) (w : Word) : (WordReg.dst c .iy w s).main = s.main := rfl
@[simp] theorem wordDst_iy_alt (c : Ctx) (w : Word) : (WordReg.dst c .iy w s).alt = s.alt := rfl
@[simp] theorem wordDst_iy_ix (c : Ctx) (w : Word) : (WordReg.dst c .iy w s).ix = s.ix := rfl
@[simp] theorem wordDst_iy_iy (c : Ctx) (w : Word) : (WordReg.dst c .iy w s).iy = w := rfl
@[simp] theorem wordDst_iy_sp (c : Ctx) (w : Word) : (WordReg.dst c .iy w s).sp = s.sp := rfl
@[simp] theorem wordDst_sp_main (c : Ctx) (w : Word) : (WordReg.dst c .sp w s).main = s.main := rfl
@[simp] theorem wordDst_sp_alt (c : Ctx) (w : Word) : (WordReg.dst c .sp w s).alt = s.alt := rfl
@[simp] theorem wordDst_sp_ix (c : Ctx) (w : Word) : (WordReg.dst c .sp w s).ix = s.ix := rfl
@[simp] theorem wordDst_sp_iy (c : Ctx) (w : Word) : (WordReg.dst c .sp w s).iy = s.iy := rfl
@[simp] theorem wordDst_sp_sp (c : Ctx) (w : Word) : (WordReg.dst c .sp w s).sp = w := rfl
@[simp] theorem wordDst_pair_ix (c : Ctx) (p : RegZz) (w : Word) : (WordReg.dst c (.pair p) w s).ix = s.ix := by
  simp [WordReg.dst]
@[simp] theorem wordDst_pair_iy (c : Ctx) (p : RegZz) (w : Word) : (WordReg.dst c (.pair p) w s).iy = s.iy := by
  simp [WordReg.dst]
@[simp] theorem wordDst_pair_sp (c : Ctx) (p : RegZz) (w : Word) : (WordReg.dst c (.pair p) w s).sp = s.sp := by
  simp [WordReg.dst]

/-! ### `physWrite` -/

@[simp] theorem physWrite_main (p : PhysAddr) (v : Byte) : (physWrite p v s).main = s.main := rfl
@[simp] theorem physWrite_alt (p : PhysAddr) (v : Byte) : (physWrite p v s).alt = s.alt := rfl
@[simp] theorem physWrite_ix (p : PhysAddr) (v : Byte) : (physWrite p v s).ix = s.ix := rfl
@[simp] theorem physWrite_iy (p : PhysAddr) (v : Byte) : (physWrite p v s).iy = s.iy := rfl
@[simp] theorem physWrite_sp (p : PhysAddr) (v : Byte) : (physWrite p v s).sp = s.sp := rfl
@[simp] theorem physWrite_pc (p : PhysAddr) (v : Byte) : (physWrite p v s).pc = s.pc := rfl
@[simp] theorem physWrite_xpc (p : PhysAddr) (v : Byte) : (physWrite p v s).xpc = s.xpc := rfl
@[simp] theorem physWrite_ip (p : PhysAddr) (v : Byte) : (physWrite p v s).ip = s.ip := rfl
@[simp] theorem physWrite_iir (p : PhysAddr) (v : Byte) : (physWrite p v s).iir = s.iir := rfl
@[simp] theorem physWrite_eir (p : PhysAddr) (v : Byte) : (physWrite p v s).eir = s.eir := rfl
@[simp] theorem physWrite_altd (p : PhysAddr) (v : Byte) : (physWrite p v s).altd = s.altd := rfl
@[simp] theorem physWrite_io (p : PhysAddr) (v : Byte) : (physWrite p v s).io = s.io := rfl
@[simp] theorem physWrite_hold (p : PhysAddr) (v : Byte) : (physWrite p v s).hold = s.hold := rfl
@[simp] theorem physWrite_iobug (p : PhysAddr) (v : Byte) : (physWrite p v s).iobug = s.iobug := rfl
@[simp] theorem physWrite_mmu (p : PhysAddr) (v : Byte) : (physWrite p v s).mmu = s.mmu := rfl
@[simp] theorem physWrite_mmuIn (p : PhysAddr) (v : Byte) : (physWrite p v s).mmuIn = s.mmuIn := rfl
@[simp] theorem physWrite_ioIn (p : PhysAddr) (v : Byte) : (physWrite p v s).ioIn = s.ioIn := rfl
@[simp] theorem physWrite_ioDraws (p : PhysAddr) (v : Byte) : (physWrite p v s).ioDraws = s.ioDraws := rfl
@[simp] theorem physWrite_ioTrace (p : PhysAddr) (v : Byte) : (physWrite p v s).ioTrace = s.ioTrace := rfl
@[simp] theorem physWrite_irq (p : PhysAddr) (v : Byte) : (physWrite p v s).irq = s.irq := rfl

/-! ### `memWrite` -/

@[simp] theorem memWrite_main (a : Word) (v : Byte) : (memWrite a v s).main = s.main := rfl
@[simp] theorem memWrite_alt (a : Word) (v : Byte) : (memWrite a v s).alt = s.alt := rfl
@[simp] theorem memWrite_ix (a : Word) (v : Byte) : (memWrite a v s).ix = s.ix := rfl
@[simp] theorem memWrite_iy (a : Word) (v : Byte) : (memWrite a v s).iy = s.iy := rfl
@[simp] theorem memWrite_sp (a : Word) (v : Byte) : (memWrite a v s).sp = s.sp := rfl
@[simp] theorem memWrite_pc (a : Word) (v : Byte) : (memWrite a v s).pc = s.pc := rfl
@[simp] theorem memWrite_xpc (a : Word) (v : Byte) : (memWrite a v s).xpc = s.xpc := rfl
@[simp] theorem memWrite_ip (a : Word) (v : Byte) : (memWrite a v s).ip = s.ip := rfl
@[simp] theorem memWrite_iir (a : Word) (v : Byte) : (memWrite a v s).iir = s.iir := rfl
@[simp] theorem memWrite_eir (a : Word) (v : Byte) : (memWrite a v s).eir = s.eir := rfl
@[simp] theorem memWrite_altd (a : Word) (v : Byte) : (memWrite a v s).altd = s.altd := rfl
@[simp] theorem memWrite_io (a : Word) (v : Byte) : (memWrite a v s).io = s.io := rfl
@[simp] theorem memWrite_hold (a : Word) (v : Byte) : (memWrite a v s).hold = s.hold := rfl
@[simp] theorem memWrite_iobug (a : Word) (v : Byte) : (memWrite a v s).iobug = s.iobug := rfl
@[simp] theorem memWrite_mmu (a : Word) (v : Byte) : (memWrite a v s).mmu = s.mmu := rfl
@[simp] theorem memWrite_mmuIn (a : Word) (v : Byte) : (memWrite a v s).mmuIn = s.mmuIn := rfl
@[simp] theorem memWrite_ioIn (a : Word) (v : Byte) : (memWrite a v s).ioIn = s.ioIn := rfl
@[simp] theorem memWrite_ioDraws (a : Word) (v : Byte) : (memWrite a v s).ioDraws = s.ioDraws := rfl
@[simp] theorem memWrite_ioTrace (a : Word) (v : Byte) : (memWrite a v s).ioTrace = s.ioTrace := rfl
@[simp] theorem memWrite_irq (a : Word) (v : Byte) : (memWrite a v s).irq = s.irq := rfl

/-! ### `memWrite16` -/

@[simp] theorem memWrite16_main (a w : Word) : (memWrite16 a w s).main = s.main := rfl
@[simp] theorem memWrite16_alt (a w : Word) : (memWrite16 a w s).alt = s.alt := rfl
@[simp] theorem memWrite16_ix (a w : Word) : (memWrite16 a w s).ix = s.ix := rfl
@[simp] theorem memWrite16_iy (a w : Word) : (memWrite16 a w s).iy = s.iy := rfl
@[simp] theorem memWrite16_sp (a w : Word) : (memWrite16 a w s).sp = s.sp := rfl
@[simp] theorem memWrite16_pc (a w : Word) : (memWrite16 a w s).pc = s.pc := rfl
@[simp] theorem memWrite16_xpc (a w : Word) : (memWrite16 a w s).xpc = s.xpc := rfl
@[simp] theorem memWrite16_ip (a w : Word) : (memWrite16 a w s).ip = s.ip := rfl
@[simp] theorem memWrite16_iir (a w : Word) : (memWrite16 a w s).iir = s.iir := rfl
@[simp] theorem memWrite16_eir (a w : Word) : (memWrite16 a w s).eir = s.eir := rfl
@[simp] theorem memWrite16_altd (a w : Word) : (memWrite16 a w s).altd = s.altd := rfl
@[simp] theorem memWrite16_io (a w : Word) : (memWrite16 a w s).io = s.io := rfl
@[simp] theorem memWrite16_hold (a w : Word) : (memWrite16 a w s).hold = s.hold := rfl
@[simp] theorem memWrite16_iobug (a w : Word) : (memWrite16 a w s).iobug = s.iobug := rfl
@[simp] theorem memWrite16_mmu (a w : Word) : (memWrite16 a w s).mmu = s.mmu := rfl
@[simp] theorem memWrite16_mmuIn (a w : Word) : (memWrite16 a w s).mmuIn = s.mmuIn := rfl
@[simp] theorem memWrite16_ioIn (a w : Word) : (memWrite16 a w s).ioIn = s.ioIn := rfl
@[simp] theorem memWrite16_ioDraws (a w : Word) : (memWrite16 a w s).ioDraws = s.ioDraws := rfl
@[simp] theorem memWrite16_ioTrace (a w : Word) : (memWrite16 a w s).ioTrace = s.ioTrace := rfl
@[simp] theorem memWrite16_irq (a w : Word) : (memWrite16 a w s).irq = s.irq := rfl

/-! ### `physWrite16` -/

@[simp] theorem physWrite16_main (p : PhysAddr) (w : Word) : (physWrite16 p w s).main = s.main := rfl
@[simp] theorem physWrite16_alt (p : PhysAddr) (w : Word) : (physWrite16 p w s).alt = s.alt := rfl
@[simp] theorem physWrite16_ix (p : PhysAddr) (w : Word) : (physWrite16 p w s).ix = s.ix := rfl
@[simp] theorem physWrite16_iy (p : PhysAddr) (w : Word) : (physWrite16 p w s).iy = s.iy := rfl
@[simp] theorem physWrite16_sp (p : PhysAddr) (w : Word) : (physWrite16 p w s).sp = s.sp := rfl
@[simp] theorem physWrite16_pc (p : PhysAddr) (w : Word) : (physWrite16 p w s).pc = s.pc := rfl
@[simp] theorem physWrite16_xpc (p : PhysAddr) (w : Word) : (physWrite16 p w s).xpc = s.xpc := rfl
@[simp] theorem physWrite16_ip (p : PhysAddr) (w : Word) : (physWrite16 p w s).ip = s.ip := rfl
@[simp] theorem physWrite16_iir (p : PhysAddr) (w : Word) : (physWrite16 p w s).iir = s.iir := rfl
@[simp] theorem physWrite16_eir (p : PhysAddr) (w : Word) : (physWrite16 p w s).eir = s.eir := rfl
@[simp] theorem physWrite16_altd (p : PhysAddr) (w : Word) : (physWrite16 p w s).altd = s.altd := rfl
@[simp] theorem physWrite16_io (p : PhysAddr) (w : Word) : (physWrite16 p w s).io = s.io := rfl
@[simp] theorem physWrite16_hold (p : PhysAddr) (w : Word) : (physWrite16 p w s).hold = s.hold := rfl
@[simp] theorem physWrite16_iobug (p : PhysAddr) (w : Word) : (physWrite16 p w s).iobug = s.iobug := rfl
@[simp] theorem physWrite16_mmu (p : PhysAddr) (w : Word) : (physWrite16 p w s).mmu = s.mmu := rfl
@[simp] theorem physWrite16_mmuIn (p : PhysAddr) (w : Word) : (physWrite16 p w s).mmuIn = s.mmuIn := rfl
@[simp] theorem physWrite16_ioIn (p : PhysAddr) (w : Word) : (physWrite16 p w s).ioIn = s.ioIn := rfl
@[simp] theorem physWrite16_ioDraws (p : PhysAddr) (w : Word) : (physWrite16 p w s).ioDraws = s.ioDraws := rfl
@[simp] theorem physWrite16_ioTrace (p : PhysAddr) (w : Word) : (physWrite16 p w s).ioTrace = s.ioTrace := rfl
@[simp] theorem physWrite16_irq (p : PhysAddr) (w : Word) : (physWrite16 p w s).irq = s.irq := rfl

/-! ### `ioWrite` -/

@[simp] theorem ioWrite_main (x : IoSpace) (a : Word) (v : Byte) : (ioWrite x a v s).main = s.main := rfl
@[simp] theorem ioWrite_alt (x : IoSpace) (a : Word) (v : Byte) : (ioWrite x a v s).alt = s.alt := rfl
@[simp] theorem ioWrite_ix (x : IoSpace) (a : Word) (v : Byte) : (ioWrite x a v s).ix = s.ix := rfl
@[simp] theorem ioWrite_iy (x : IoSpace) (a : Word) (v : Byte) : (ioWrite x a v s).iy = s.iy := rfl
@[simp] theorem ioWrite_sp (x : IoSpace) (a : Word) (v : Byte) : (ioWrite x a v s).sp = s.sp := rfl
@[simp] theorem ioWrite_pc (x : IoSpace) (a : Word) (v : Byte) : (ioWrite x a v s).pc = s.pc := rfl
@[simp] theorem ioWrite_xpc (x : IoSpace) (a : Word) (v : Byte) : (ioWrite x a v s).xpc = s.xpc := rfl
@[simp] theorem ioWrite_ip (x : IoSpace) (a : Word) (v : Byte) : (ioWrite x a v s).ip = s.ip := rfl
@[simp] theorem ioWrite_iir (x : IoSpace) (a : Word) (v : Byte) : (ioWrite x a v s).iir = s.iir := rfl
@[simp] theorem ioWrite_eir (x : IoSpace) (a : Word) (v : Byte) : (ioWrite x a v s).eir = s.eir := rfl
@[simp] theorem ioWrite_altd (x : IoSpace) (a : Word) (v : Byte) : (ioWrite x a v s).altd = s.altd := rfl
@[simp] theorem ioWrite_io (x : IoSpace) (a : Word) (v : Byte) : (ioWrite x a v s).io = s.io := rfl
@[simp] theorem ioWrite_hold (x : IoSpace) (a : Word) (v : Byte) : (ioWrite x a v s).hold = s.hold := rfl
@[simp] theorem ioWrite_iobug (x : IoSpace) (a : Word) (v : Byte) : (ioWrite x a v s).iobug = s.iobug := rfl
@[simp] theorem ioWrite_mem (x : IoSpace) (a : Word) (v : Byte) : (ioWrite x a v s).mem = s.mem := rfl
@[simp] theorem ioWrite_ioIn (x : IoSpace) (a : Word) (v : Byte) : (ioWrite x a v s).ioIn = s.ioIn := rfl
@[simp] theorem ioWrite_ioDraws (x : IoSpace) (a : Word) (v : Byte) : (ioWrite x a v s).ioDraws = s.ioDraws := rfl
@[simp] theorem ioWrite_irq (x : IoSpace) (a : Word) (v : Byte) : (ioWrite x a v s).irq = s.irq := rfl

/-! ### `push8` -/

@[simp] theorem push8_main (v : Byte) : (push8 v s).main = s.main := rfl
@[simp] theorem push8_alt (v : Byte) : (push8 v s).alt = s.alt := rfl
@[simp] theorem push8_ix (v : Byte) : (push8 v s).ix = s.ix := rfl
@[simp] theorem push8_iy (v : Byte) : (push8 v s).iy = s.iy := rfl
@[simp] theorem push8_pc (v : Byte) : (push8 v s).pc = s.pc := rfl
@[simp] theorem push8_xpc (v : Byte) : (push8 v s).xpc = s.xpc := rfl
@[simp] theorem push8_ip (v : Byte) : (push8 v s).ip = s.ip := rfl
@[simp] theorem push8_iir (v : Byte) : (push8 v s).iir = s.iir := rfl
@[simp] theorem push8_eir (v : Byte) : (push8 v s).eir = s.eir := rfl
@[simp] theorem push8_altd (v : Byte) : (push8 v s).altd = s.altd := rfl
@[simp] theorem push8_io (v : Byte) : (push8 v s).io = s.io := rfl
@[simp] theorem push8_hold (v : Byte) : (push8 v s).hold = s.hold := rfl
@[simp] theorem push8_iobug (v : Byte) : (push8 v s).iobug = s.iobug := rfl
@[simp] theorem push8_mmu (v : Byte) : (push8 v s).mmu = s.mmu := rfl
@[simp] theorem push8_mmuIn (v : Byte) : (push8 v s).mmuIn = s.mmuIn := rfl
@[simp] theorem push8_ioIn (v : Byte) : (push8 v s).ioIn = s.ioIn := rfl
@[simp] theorem push8_ioDraws (v : Byte) : (push8 v s).ioDraws = s.ioDraws := rfl
@[simp] theorem push8_ioTrace (v : Byte) : (push8 v s).ioTrace = s.ioTrace := rfl
@[simp] theorem push8_irq (v : Byte) : (push8 v s).irq = s.irq := rfl

/-! ### `push16` -/

@[simp] theorem push16_main (w : Word) : (push16 w s).main = s.main := rfl
@[simp] theorem push16_alt (w : Word) : (push16 w s).alt = s.alt := rfl
@[simp] theorem push16_ix (w : Word) : (push16 w s).ix = s.ix := rfl
@[simp] theorem push16_iy (w : Word) : (push16 w s).iy = s.iy := rfl
@[simp] theorem push16_pc (w : Word) : (push16 w s).pc = s.pc := rfl
@[simp] theorem push16_xpc (w : Word) : (push16 w s).xpc = s.xpc := rfl
@[simp] theorem push16_ip (w : Word) : (push16 w s).ip = s.ip := rfl
@[simp] theorem push16_iir (w : Word) : (push16 w s).iir = s.iir := rfl
@[simp] theorem push16_eir (w : Word) : (push16 w s).eir = s.eir := rfl
@[simp] theorem push16_altd (w : Word) : (push16 w s).altd = s.altd := rfl
@[simp] theorem push16_io (w : Word) : (push16 w s).io = s.io := rfl
@[simp] theorem push16_hold (w : Word) : (push16 w s).hold = s.hold := rfl
@[simp] theorem push16_iobug (w : Word) : (push16 w s).iobug = s.iobug := rfl
@[simp] theorem push16_mmu (w : Word) : (push16 w s).mmu = s.mmu := rfl
@[simp] theorem push16_mmuIn (w : Word) : (push16 w s).mmuIn = s.mmuIn := rfl
@[simp] theorem push16_ioIn (w : Word) : (push16 w s).ioIn = s.ioIn := rfl
@[simp] theorem push16_ioDraws (w : Word) : (push16 w s).ioDraws = s.ioDraws := rfl
@[simp] theorem push16_ioTrace (w : Word) : (push16 w s).ioTrace = s.ioTrace := rfl
@[simp] theorem push16_irq (w : Word) : (push16 w s).irq = s.irq := rfl

/-! ### `takeInterrupt` -/

@[simp] theorem takeInterrupt_main (r : IrqRequest) : (takeInterrupt r s).main = s.main := rfl
@[simp] theorem takeInterrupt_alt (r : IrqRequest) : (takeInterrupt r s).alt = s.alt := rfl
@[simp] theorem takeInterrupt_ix (r : IrqRequest) : (takeInterrupt r s).ix = s.ix := rfl
@[simp] theorem takeInterrupt_iy (r : IrqRequest) : (takeInterrupt r s).iy = s.iy := rfl
@[simp] theorem takeInterrupt_xpc (r : IrqRequest) : (takeInterrupt r s).xpc = s.xpc := rfl
@[simp] theorem takeInterrupt_iir (r : IrqRequest) : (takeInterrupt r s).iir = s.iir := rfl
@[simp] theorem takeInterrupt_eir (r : IrqRequest) : (takeInterrupt r s).eir = s.eir := rfl
@[simp] theorem takeInterrupt_altd (r : IrqRequest) : (takeInterrupt r s).altd = s.altd := rfl
@[simp] theorem takeInterrupt_io (r : IrqRequest) : (takeInterrupt r s).io = s.io := rfl
@[simp] theorem takeInterrupt_hold (r : IrqRequest) : (takeInterrupt r s).hold = s.hold := rfl
@[simp] theorem takeInterrupt_iobug (r : IrqRequest) : (takeInterrupt r s).iobug = s.iobug := rfl
@[simp] theorem takeInterrupt_mmu (r : IrqRequest) : (takeInterrupt r s).mmu = s.mmu := rfl
@[simp] theorem takeInterrupt_mmuIn (r : IrqRequest) : (takeInterrupt r s).mmuIn = s.mmuIn := rfl
@[simp] theorem takeInterrupt_ioIn (r : IrqRequest) : (takeInterrupt r s).ioIn = s.ioIn := rfl
@[simp] theorem takeInterrupt_ioDraws (r : IrqRequest) : (takeInterrupt r s).ioDraws = s.ioDraws := rfl
@[simp] theorem takeInterrupt_ioTrace (r : IrqRequest) : (takeInterrupt r s).ioTrace = s.ioTrace := rfl
@[simp] theorem takeInterrupt_irq (r : IrqRequest) : (takeInterrupt r s).irq = s.irq := rfl

/-! ### `advance` -/

@[simp] theorem advance_main (len : Nat) : (advance len s).main = s.main := rfl
@[simp] theorem advance_alt (len : Nat) : (advance len s).alt = s.alt := rfl
@[simp] theorem advance_ix (len : Nat) : (advance len s).ix = s.ix := rfl
@[simp] theorem advance_iy (len : Nat) : (advance len s).iy = s.iy := rfl
@[simp] theorem advance_sp (len : Nat) : (advance len s).sp = s.sp := rfl
@[simp] theorem advance_xpc (len : Nat) : (advance len s).xpc = s.xpc := rfl
@[simp] theorem advance_ip (len : Nat) : (advance len s).ip = s.ip := rfl
@[simp] theorem advance_iir (len : Nat) : (advance len s).iir = s.iir := rfl
@[simp] theorem advance_eir (len : Nat) : (advance len s).eir = s.eir := rfl
@[simp] theorem advance_altd (len : Nat) : (advance len s).altd = s.altd := rfl
@[simp] theorem advance_io (len : Nat) : (advance len s).io = s.io := rfl
@[simp] theorem advance_hold (len : Nat) : (advance len s).hold = s.hold := rfl
@[simp] theorem advance_iobug (len : Nat) : (advance len s).iobug = s.iobug := rfl
@[simp] theorem advance_mem (len : Nat) : (advance len s).mem = s.mem := rfl
@[simp] theorem advance_mmu (len : Nat) : (advance len s).mmu = s.mmu := rfl
@[simp] theorem advance_mmuIn (len : Nat) : (advance len s).mmuIn = s.mmuIn := rfl
@[simp] theorem advance_ioIn (len : Nat) : (advance len s).ioIn = s.ioIn := rfl
@[simp] theorem advance_ioDraws (len : Nat) : (advance len s).ioDraws = s.ioDraws := rfl
@[simp] theorem advance_ioTrace (len : Nat) : (advance len s).ioTrace = s.ioTrace := rfl
@[simp] theorem advance_irq (len : Nat) : (advance len s).irq = s.irq := rfl

/-! ### `ioRead` -/

@[simp] theorem ioRead_main (x : IoSpace) (a : Word) : ((ioRead x a s).2).main = s.main := by unfold ioRead; split <;> rfl
@[simp] theorem ioRead_alt (x : IoSpace) (a : Word) : ((ioRead x a s).2).alt = s.alt := by unfold ioRead; split <;> rfl
@[simp] theorem ioRead_ix (x : IoSpace) (a : Word) : ((ioRead x a s).2).ix = s.ix := by unfold ioRead; split <;> rfl
@[simp] theorem ioRead_iy (x : IoSpace) (a : Word) : ((ioRead x a s).2).iy = s.iy := by unfold ioRead; split <;> rfl
@[simp] theorem ioRead_sp (x : IoSpace) (a : Word) : ((ioRead x a s).2).sp = s.sp := by unfold ioRead; split <;> rfl
@[simp] theorem ioRead_pc (x : IoSpace) (a : Word) : ((ioRead x a s).2).pc = s.pc := by unfold ioRead; split <;> rfl
@[simp] theorem ioRead_xpc (x : IoSpace) (a : Word) : ((ioRead x a s).2).xpc = s.xpc := by unfold ioRead; split <;> rfl
@[simp] theorem ioRead_ip (x : IoSpace) (a : Word) : ((ioRead x a s).2).ip = s.ip := by unfold ioRead; split <;> rfl
@[simp] theorem ioRead_iir (x : IoSpace) (a : Word) : ((ioRead x a s).2).iir = s.iir := by unfold ioRead; split <;> rfl
@[simp] theorem ioRead_eir (x : IoSpace) (a : Word) : ((ioRead x a s).2).eir = s.eir := by unfold ioRead; split <;> rfl
@[simp] theorem ioRead_altd (x : IoSpace) (a : Word) : ((ioRead x a s).2).altd = s.altd := by unfold ioRead; split <;> rfl
@[simp] theorem ioRead_io (x : IoSpace) (a : Word) : ((ioRead x a s).2).io = s.io := by unfold ioRead; split <;> rfl
@[simp] theorem ioRead_hold (x : IoSpace) (a : Word) : ((ioRead x a s).2).hold = s.hold := by unfold ioRead; split <;> rfl
@[simp] theorem ioRead_iobug (x : IoSpace) (a : Word) : ((ioRead x a s).2).iobug = s.iobug := by unfold ioRead; split <;> rfl
@[simp] theorem ioRead_mem (x : IoSpace) (a : Word) : ((ioRead x a s).2).mem = s.mem := by unfold ioRead; split <;> rfl
@[simp] theorem ioRead_mmu (x : IoSpace) (a : Word) : ((ioRead x a s).2).mmu = s.mmu := by unfold ioRead; split <;> rfl
@[simp] theorem ioRead_mmuIn (x : IoSpace) (a : Word) : ((ioRead x a s).2).mmuIn = s.mmuIn := by unfold ioRead; split <;> rfl
@[simp] theorem ioRead_irq (x : IoSpace) (a : Word) : ((ioRead x a s).2).irq = s.irq := by unfold ioRead; split <;> rfl

/-! ### `dstWrite` -/

@[simp] theorem dstWrite_main (c : Ctx) (a : Word) (v : Byte) : (dstWrite c a v s).main = s.main := by unfold dstWrite; split <;> rfl
@[simp] theorem dstWrite_alt (c : Ctx) (a : Word) (v : Byte) : (dstWrite c a v s).alt = s.alt := by unfold dstWrite; split <;> rfl
@[simp] theorem dstWrite_ix (c : Ctx) (a : Word) (v : Byte) : (dstWrite c a v s).ix = s.ix := by unfold dstWrite; split <;> rfl
@[simp] theorem dstWrite_iy (c : Ctx) (a : Word) (v : Byte) : (dstWrite c a v s).iy = s.iy := by unfold dstWrite; split <;> rfl
@[simp] theorem dstWrite_sp (c : Ctx) (a : Word) (v : Byte) : (dstWrite c a v s).sp = s.sp := by unfold dstWrite; split <;> rfl
@[simp] theorem dstWrite_pc (c : Ctx) (a : Word) (v : Byte) : (dstWrite c a v s).pc = s.pc := by unfold dstWrite; split <;> rfl
@[simp] theorem dstWrite_xpc (c : Ctx) (a : Word) (v : Byte) : (dstWrite c a v s).xpc = s.xpc := by unfold dstWrite; split <;> rfl
@[simp] theorem dstWrite_ip (c : Ctx) (a : Word) (v : Byte) : (dstWrite c a v s).ip = s.ip := by unfold dstWrite; split <;> rfl
@[simp] theorem dstWrite_iir (c : Ctx) (a : Word) (v : Byte) : (dstWrite c a v s).iir = s.iir := by unfold dstWrite; split <;> rfl
@[simp] theorem dstWrite_eir (c : Ctx) (a : Word) (v : Byte) : (dstWrite c a v s).eir = s.eir := by unfold dstWrite; split <;> rfl
@[simp] theorem dstWrite_altd (c : Ctx) (a : Word) (v : Byte) : (dstWrite c a v s).altd = s.altd := by unfold dstWrite; split <;> rfl
@[simp] theorem dstWrite_io (c : Ctx) (a : Word) (v : Byte) : (dstWrite c a v s).io = s.io := by unfold dstWrite; split <;> rfl
@[simp] theorem dstWrite_hold (c : Ctx) (a : Word) (v : Byte) : (dstWrite c a v s).hold = s.hold := by unfold dstWrite; split <;> rfl
@[simp] theorem dstWrite_iobug (c : Ctx) (a : Word) (v : Byte) : (dstWrite c a v s).iobug = s.iobug := by unfold dstWrite; split <;> rfl
@[simp] theorem dstWrite_ioIn (c : Ctx) (a : Word) (v : Byte) : (dstWrite c a v s).ioIn = s.ioIn := by unfold dstWrite; split <;> rfl
@[simp] theorem dstWrite_ioDraws (c : Ctx) (a : Word) (v : Byte) : (dstWrite c a v s).ioDraws = s.ioDraws := by unfold dstWrite; split <;> rfl
@[simp] theorem dstWrite_irq (c : Ctx) (a : Word) (v : Byte) : (dstWrite c a v s).irq = s.irq := by unfold dstWrite; split <;> rfl

/-! ### `dstWrite16` -/

@[simp] theorem dstWrite16_main (c : Ctx) (a w : Word) : (dstWrite16 c a w s).main = s.main := by simp [dstWrite16]
@[simp] theorem dstWrite16_alt (c : Ctx) (a w : Word) : (dstWrite16 c a w s).alt = s.alt := by simp [dstWrite16]
@[simp] theorem dstWrite16_ix (c : Ctx) (a w : Word) : (dstWrite16 c a w s).ix = s.ix := by simp [dstWrite16]
@[simp] theorem dstWrite16_iy (c : Ctx) (a w : Word) : (dstWrite16 c a w s).iy = s.iy := by simp [dstWrite16]
@[simp] theorem dstWrite16_sp (c : Ctx) (a w : Word) : (dstWrite16 c a w s).sp = s.sp := by simp [dstWrite16]
@[simp] theorem dstWrite16_pc (c : Ctx) (a w : Word) : (dstWrite16 c a w s).pc = s.pc := by simp [dstWrite16]
@[simp] theorem dstWrite16_xpc (c : Ctx) (a w : Word) : (dstWrite16 c a w s).xpc = s.xpc := by simp [dstWrite16]
@[simp] theorem dstWrite16_ip (c : Ctx) (a w : Word) : (dstWrite16 c a w s).ip = s.ip := by simp [dstWrite16]
@[simp] theorem dstWrite16_iir (c : Ctx) (a w : Word) : (dstWrite16 c a w s).iir = s.iir := by simp [dstWrite16]
@[simp] theorem dstWrite16_eir (c : Ctx) (a w : Word) : (dstWrite16 c a w s).eir = s.eir := by simp [dstWrite16]
@[simp] theorem dstWrite16_altd (c : Ctx) (a w : Word) : (dstWrite16 c a w s).altd = s.altd := by simp [dstWrite16]
@[simp] theorem dstWrite16_io (c : Ctx) (a w : Word) : (dstWrite16 c a w s).io = s.io := by simp [dstWrite16]
@[simp] theorem dstWrite16_hold (c : Ctx) (a w : Word) : (dstWrite16 c a w s).hold = s.hold := by simp [dstWrite16]
@[simp] theorem dstWrite16_iobug (c : Ctx) (a w : Word) : (dstWrite16 c a w s).iobug = s.iobug := by simp [dstWrite16]
@[simp] theorem dstWrite16_ioIn (c : Ctx) (a w : Word) : (dstWrite16 c a w s).ioIn = s.ioIn := by simp [dstWrite16]
@[simp] theorem dstWrite16_ioDraws (c : Ctx) (a w : Word) : (dstWrite16 c a w s).ioDraws = s.ioDraws := by simp [dstWrite16]
@[simp] theorem dstWrite16_irq (c : Ctx) (a w : Word) : (dstWrite16 c a w s).irq = s.irq := by simp [dstWrite16]

/-! ### `afterAsking` -/

@[simp] theorem afterAsking_main : (afterAsking s).main = s.main := by unfold afterAsking; split <;> rfl
@[simp] theorem afterAsking_alt : (afterAsking s).alt = s.alt := by unfold afterAsking; split <;> rfl
@[simp] theorem afterAsking_ix : (afterAsking s).ix = s.ix := by unfold afterAsking; split <;> rfl
@[simp] theorem afterAsking_iy : (afterAsking s).iy = s.iy := by unfold afterAsking; split <;> rfl
@[simp] theorem afterAsking_sp : (afterAsking s).sp = s.sp := by unfold afterAsking; split <;> rfl
@[simp] theorem afterAsking_pc : (afterAsking s).pc = s.pc := by unfold afterAsking; split <;> rfl
@[simp] theorem afterAsking_xpc : (afterAsking s).xpc = s.xpc := by unfold afterAsking; split <;> rfl
@[simp] theorem afterAsking_ip : (afterAsking s).ip = s.ip := by unfold afterAsking; split <;> rfl
@[simp] theorem afterAsking_iir : (afterAsking s).iir = s.iir := by unfold afterAsking; split <;> rfl
@[simp] theorem afterAsking_eir : (afterAsking s).eir = s.eir := by unfold afterAsking; split <;> rfl
@[simp] theorem afterAsking_altd : (afterAsking s).altd = s.altd := by unfold afterAsking; split <;> rfl
@[simp] theorem afterAsking_io : (afterAsking s).io = s.io := by unfold afterAsking; split <;> rfl
@[simp] theorem afterAsking_hold : (afterAsking s).hold = s.hold := by unfold afterAsking; split <;> rfl
@[simp] theorem afterAsking_iobug : (afterAsking s).iobug = s.iobug := by unfold afterAsking; split <;> rfl
@[simp] theorem afterAsking_mem : (afterAsking s).mem = s.mem := by unfold afterAsking; split <;> rfl
@[simp] theorem afterAsking_mmu : (afterAsking s).mmu = s.mmu := by unfold afterAsking; split <;> rfl
@[simp] theorem afterAsking_mmuIn : (afterAsking s).mmuIn = s.mmuIn := by unfold afterAsking; split <;> rfl
@[simp] theorem afterAsking_ioIn : (afterAsking s).ioIn = s.ioIn := by unfold afterAsking; split <;> rfl
@[simp] theorem afterAsking_ioDraws : (afterAsking s).ioDraws = s.ioDraws := by unfold afterAsking; split <;> rfl
@[simp] theorem afterAsking_ioTrace : (afterAsking s).ioTrace = s.ioTrace := by unfold afterAsking; split <;> rfl

@[simp] theorem ioWrite_mmu (x : IoSpace) (a : Word) (v : Byte) : (ioWrite x a v s).mmu = mmuAfterWrite s := rfl
@[simp] theorem ioWrite_mmuIn (x : IoSpace) (a : Word) (v : Byte) : (ioWrite x a v s).mmuIn = s.mmuIn.tail := rfl
@[simp] theorem ioWrite_ioTrace (x : IoSpace) (a : Word) (v : Byte) :
    (ioWrite x a v s).ioTrace = s.ioTrace ++ [.write x (ioAddr x a) v] := rfl
@[simp] theorem push8_sp (v : Byte) : (push8 v s).sp = s.sp - 1 := rfl
@[simp] theorem push16_sp (w : Word) : (push16 w s).sp = s.sp - 2 := rfl
@[simp] theorem takeInterrupt_sp (r : IrqRequest) : (takeInterrupt r s).sp = s.sp - 2 := rfl
@[simp] theorem takeInterrupt_ip (r : IrqRequest) : (takeInterrupt r s).ip = pushPriority s.ip r.prio.code := rfl
@[simp] theorem takeInterrupt_pc (r : IrqRequest) : (takeInterrupt r s).pc = vector r s := rfl
@[simp] theorem advance_pc (len : Nat) : (advance len s).pc = s.pc + BitVec.ofNat 16 len := rfl

/-! ### The latches after an instruction -/

@[simp] theorem complete_main (m : Marks) (t : State) : (complete m s t).main = t.main := rfl
@[simp] theorem complete_alt (m : Marks) (t : State) : (complete m s t).alt = t.alt := rfl
@[simp] theorem complete_ix (m : Marks) (t : State) : (complete m s t).ix = t.ix := rfl
@[simp] theorem complete_iy (m : Marks) (t : State) : (complete m s t).iy = t.iy := rfl
@[simp] theorem complete_sp (m : Marks) (t : State) : (complete m s t).sp = t.sp := rfl
@[simp] theorem complete_pc (m : Marks) (t : State) : (complete m s t).pc = t.pc := rfl
@[simp] theorem complete_xpc (m : Marks) (t : State) : (complete m s t).xpc = t.xpc := rfl
@[simp] theorem complete_ip (m : Marks) (t : State) : (complete m s t).ip = t.ip := rfl
@[simp] theorem complete_iir (m : Marks) (t : State) : (complete m s t).iir = t.iir := rfl
@[simp] theorem complete_eir (m : Marks) (t : State) : (complete m s t).eir = t.eir := rfl
@[simp] theorem complete_altd (m : Marks) (t : State) : (complete m s t).altd = false := rfl
@[simp] theorem complete_io (m : Marks) (t : State) : (complete m s t).io = none := rfl
@[simp] theorem complete_hold (m : Marks) (t : State) : (complete m s t).hold = m.priv := rfl
@[simp] theorem complete_iobug (m : Marks) (t : State) : (complete m s t).iobug = if m.io then s.io else none := rfl
@[simp] theorem complete_mem (m : Marks) (t : State) : (complete m s t).mem = t.mem := rfl
@[simp] theorem complete_mmu (m : Marks) (t : State) : (complete m s t).mmu = t.mmu := rfl
@[simp] theorem complete_mmuIn (m : Marks) (t : State) : (complete m s t).mmuIn = t.mmuIn := rfl
@[simp] theorem complete_ioIn (m : Marks) (t : State) : (complete m s t).ioIn = t.ioIn := rfl
@[simp] theorem complete_ioDraws (m : Marks) (t : State) : (complete m s t).ioDraws = t.ioDraws := rfl
@[simp] theorem complete_ioTrace (m : Marks) (t : State) : (complete m s t).ioTrace = t.ioTrace := rfl
@[simp] theorem complete_irq (m : Marks) (t : State) : (complete m s t).irq = t.irq := rfl

end Sys2Proof.Machine
end

