-- ==== Sys2Proof/Laws/Memory.lean ====
section
/-! SUPPORT. Memory: a byte written reads back, every other byte is left alone, and every operation keeps the canonical
form. -/

namespace Sys2Proof.Machine

theorem memGet_memPut_same (p : Nat) (v : Byte) : ∀ m : Memory, memGet p (memPut p v m) = some v
  | [] => by simp [memPut, memGet]
  | (q, u) :: m => by
    unfold memPut
    split
    · simp [memGet]
    · split
      · simp [memGet]
      · next h => simpa [memGet, h] using memGet_memPut_same p v m

theorem memGet_memPut_other {p q : Nat} (h : q ≠ p) (v : Byte) :
    ∀ m : Memory, memGet q (memPut p v m) = memGet q m
  | [] => by simp [memPut, memGet, h]
  | (k, u) :: m => by
    unfold memPut
    split
    · simp [memGet, h]
    · split
      · next hk => subst hk; simp [memGet, h]
      · simp only [memGet, memGet_memPut_other h v m]

/-- A write lists its own address and the addresses listed before, and nothing else. -/
theorem memPut_keys {p : Nat} {v : Byte} {x : Host.Cell} : ∀ {m : Memory}, x ∈ memPut p v m → x.1 = p ∨ x ∈ m
  | [], h => by simp [memPut] at h; simp [h]
  | (q, u) :: m, h => by
    unfold memPut at h
    split at h
    · rcases List.mem_cons.1 h with rfl | h
      · exact .inl rfl
      · exact .inr h
    · split at h
      · rcases List.mem_cons.1 h with rfl | h
        · exact .inl rfl
        · exact .inr (List.mem_cons_of_mem _ h)
      · rcases List.mem_cons.1 h with rfl | h
        · exact .inr List.mem_cons_self
        · exact (memPut_keys h).imp_right (List.mem_cons_of_mem _)

theorem memPut_rising (p : Nat) (v : Byte) :
    ∀ m : Memory, m.Pairwise (fun x y => x.1 < y.1) → (memPut p v m).Pairwise (fun x y => x.1 < y.1)
  | [], _ => by simp [memPut]
  | (q, u) :: m, h => by
    have hq := (List.pairwise_cons.1 h).1
    have hm := (List.pairwise_cons.1 h).2
    unfold memPut
    split
    · next hp =>
      refine List.pairwise_cons.2 ⟨fun x hx => ?_, h⟩
      rcases List.mem_cons.1 hx with rfl | hx
      · exact hp
      · exact Nat.lt_trans hp (hq x hx)
    · split
      · next hp => exact List.pairwise_cons.2 ⟨fun x hx => hp ▸ hq x hx, hm⟩
      · next h1 h2 =>
        refine List.pairwise_cons.2 ⟨fun x hx => ?_, memPut_rising p v m hm⟩
        rcases memPut_keys hx with hk | hx
        · show q < x.1
          omega
        · exact hq x hx

/-- A write at a physical address keeps the canonical form. -/
theorem memPut_wf {p : Nat} (hp : p < 2 ^ 20) (v : Byte) {m : Memory} (h : Memory.wf m) : Memory.wf (memPut p v m) :=
  ⟨memPut_rising p v m h.1, fun x hx => (memPut_keys hx).elim (fun e => e ▸ hp) (h.2 x)⟩

variable {s : State}

@[simp] theorem physByte_physWrite_same (p : PhysAddr) (v : Byte) : (physWrite p v s).physByte p = some v :=
  memGet_memPut_same _ _ _

theorem physByte_physWrite_other {p q : PhysAddr} (h : q ≠ p) (v : Byte) :
    (physWrite p v s).physByte q = s.physByte q :=
  memGet_memPut_other (fun e => h (BitVec.eq_of_toNat_eq e)) _ _

/-- Writes do not move the logical window. -/
@[simp] theorem phys_physWrite (p : PhysAddr) (v : Byte) (a : Word) : (physWrite p v s).phys a = s.phys a := rfl
@[simp] theorem phys_memWrite (b a : Word) (v : Byte) : (memWrite b v s).phys a = s.phys a := rfl
@[simp] theorem phys_memWrite16 (b a w : Word) : (memWrite16 b w s).phys a = s.phys a := rfl
@[simp] theorem phys_push16 (a w : Word) : (push16 w s).phys a = s.phys a := rfl
@[simp] theorem phys_push8 (a : Word) (v : Byte) : (push8 v s).phys a = s.phys a := rfl

@[simp] theorem byteAt_memWrite_same (a : Word) (v : Byte) : (memWrite a v s).byteAt a = some v :=
  physByte_physWrite_same _ _

theorem physWrite_wf (p : PhysAddr) (v : Byte) (h : Memory.wf s.mem) : Memory.wf (physWrite p v s).mem :=
  memPut_wf p.isLt v h

theorem memWrite_wf (a : Word) (v : Byte) (h : Memory.wf s.mem) : Memory.wf (memWrite a v s).mem :=
  physWrite_wf _ v h

theorem memWrite16_wf (a w : Word) (h : Memory.wf s.mem) : Memory.wf (memWrite16 a w s).mem :=
  memWrite_wf _ _ (memWrite_wf _ _ h)

theorem physWrite16_wf (p : PhysAddr) (w : Word) (h : Memory.wf s.mem) : Memory.wf (physWrite16 p w s).mem :=
  physWrite_wf _ _ (physWrite_wf _ _ h)

theorem dstWrite_wf (c : Ctx) (a : Word) (v : Byte) (h : Memory.wf s.mem) : Memory.wf (dstWrite c a v s).mem := by
  unfold dstWrite
  split
  · exact h
  · exact memWrite_wf a v h

theorem dstWrite16_wf (c : Ctx) (a w : Word) (h : Memory.wf s.mem) : Memory.wf (dstWrite16 c a w s).mem :=
  dstWrite_wf _ _ _ (dstWrite_wf _ _ _ h)

theorem push8_wf (v : Byte) (h : Memory.wf s.mem) : Memory.wf (push8 v s).mem :=
  memWrite_wf (s.sp - 1) v h

theorem push16_wf (w : Word) (h : Memory.wf s.mem) : Memory.wf (push16 w s).mem :=
  memWrite_wf (s.sp - 2) (lo w) (memWrite_wf (s.sp - 1) (hi w) h)

theorem takeInterrupt_wf (r : IrqRequest) (h : Memory.wf s.mem) : Memory.wf (takeInterrupt r s).mem :=
  push16_wf (s := s) s.pc h

theorem placeBytes_wf : ∀ (l : List Byte) (a : Word) {s : State}, Memory.wf s.mem → Memory.wf (placeBytes l a s).mem
  | [], _, _, h => h
  | v :: l, a, _, h => placeBytes_wf l (a + 1) (memWrite_wf a v h)

theorem placeInstruction_wf (n w : Nat) (h : Memory.wf s.mem) : Memory.wf (placeInstruction s n w).mem :=
  placeBytes_wf _ _ h

theorem reset_wf : Memory.wf State.reset.mem := ⟨.nil, by simp [State.reset]⟩

end Sys2Proof.Machine
end

