-- ==== Sys2Proof/Laws/Ops.lean ====
section
/-! SUPPORT. For each shared operation that can stop, one lemma that says once all it can do. -/

namespace Sys2Proof.Machine

variable {s t : State}

/-- A sequence of two computations answers only where both do. -/
theorem bind_ok {ε α β : Type} {x : Except ε α} {f : α → Except ε β} {r : β} :
    (x >>= f) = .ok r ↔ ∃ a, x = .ok a ∧ f a = .ok r := by
  cases x with
  | error e => simp [bind, Except.bind]
  | ok a => simp [bind, Except.bind]

/-- A sequence of two computations stops where the first or the second does. -/
theorem bind_error {ε α β : Type} {x : Except ε α} {f : α → Except ε β} {e : ε} :
    (x >>= f) = .error e ↔ x = .error e ∨ ∃ a, x = .ok a ∧ f a = .error e := by
  cases x with
  | error e' => simp [bind, Except.bind]
  | ok a => simp [bind, Except.bind]

@[simp] theorem ok_bind {ε α β : Type} (a : α) (f : α → Except ε β) : (Except.ok a >>= f) = f a := rfl

/-- An instruction answers a next state exactly where its body does, with the latches let go. -/
theorem perform_next {m : Marks} {b : Body} : perform m b s = .next t ↔ ∃ u, b (m.ctx s) s = .ok u ∧ t = complete m s u := by
  unfold perform
  split
  · next u h => simp [h, eq_comm]
  · next e h => simp [h]

/-- An instruction stops exactly where its body does, and never by a refusal. -/
theorem perform_fault {m : Marks} {b : Body} {e : Fault} : perform m b s = .fault e ↔ b (m.ctx s) s = .error e := by
  unfold perform
  split
  · next u h => simp [h]
  · next e' h => simp [h]

theorem perform_not_refused {m : Marks} {b : Body} {r : Refusal} : perform m b s ≠ .refused r := by
  unfold perform
  split <;> simp

/-- ALTD and a destination SP is refused; everything else runs. -/
theorem withAlternate_eq {r : WordReg} {run : State → Out} :
    withAlternate r run s = if r = .sp ∧ s.altd = true then .refused .altdSp else run s := rfl

/-- Without ALTD, or with another destination, the form runs. -/
theorem withAlternate_run {dd : RegSs} {run : State → Out} (h : dd = .sp → s.altd = false) :
    withAlternate (ssReg dd) run s = run s := by
  rw [withAlternate_eq, if_neg]
  rintro ⟨e, ha⟩
  cases dd <;> simp_all [ssReg]

/-- What answers a next state is the instruction itself. -/
theorem withAlternate_next {r : WordReg} {run : State → Out} :
    withAlternate r run s = .next t ↔ ¬(r = .sp ∧ s.altd = true) ∧ run s = .next t := by
  unfold withAlternate
  split <;> simp [*]

theorem withAlternate_fault {r : WordReg} {run : State → Out} {e : Fault} :
    withAlternate r run s = .fault e ↔ ¬(r = .sp ∧ s.altd = true) ∧ run s = .fault e := by
  unfold withAlternate
  split <;> simp [*]

/-- A form that never refuses by itself is refused exactly for ALTD and a destination SP. -/
theorem withAlternate_refused {r : WordReg} {m : Marks} {b : Body} {e : Refusal} :
    withAlternate r (perform m b) s = .refused e ↔ (r = .sp ∧ s.altd = true) ∧ e = .altdSp := by
  unfold withAlternate
  split
  · next h => simp only [h, true_and, Host.Outcome.refused.injEq, and_self, eq_comm]
  · next h => simp only [h, false_and, perform_not_refused]

/-- After an I/O write the MMU state is the oracle's answer, or as before where it has none. -/
theorem mmuAfterWrite_eq : mmuAfterWrite s = s.mmuIn.head?.join.getD s.mmu := by
  unfold mmuAfterWrite
  match s.mmuIn with
  | [] | none :: _ | some _ :: _ => rfl

theorem physRead_ok {p : PhysAddr} {v : Byte} : physRead p s = .ok v ↔ s.physByte p = some v := by
  unfold physRead
  split <;> simp [*]

theorem physRead_error {p : PhysAddr} {e : Fault} :
    physRead p s = .error e ↔ s.physByte p = none ∧ e = .unwrittenMemory p := by
  unfold physRead
  split <;> simp [*, eq_comm]

theorem memRead_ok {a : Word} {v : Byte} : memRead a s = .ok v ↔ s.byteAt a = some v := physRead_ok

theorem memRead_error {a : Word} {e : Fault} :
    memRead a s = .error e ↔ s.byteAt a = none ∧ e = .unwrittenMemory (s.phys a) := physRead_error

theorem memRead16_ok {a w : Word} :
    memRead16 a s = .ok w ↔ ∃ l h, s.byteAt a = some l ∧ s.byteAt (a + 1) = some h ∧ pair h l = w := by
  simp [memRead16, bind_ok, memRead_ok]

theorem physRead16_ok {p : PhysAddr} {w : Word} :
    physRead16 p s = .ok w ↔ ∃ l h, s.physByte p = some l ∧ s.physByte (ldpNext p) = some h ∧ pair h l = w := by
  simp [physRead16, bind_ok, physRead_ok]

/-- A marked source access: memory without an I/O selection, the oracle with one. -/
theorem srcRead_ok {c : Ctx} {a : Word} {r : Byte × State} :
    srcRead c a s = .ok r ↔
      (c.io = none ∧ s.byteAt a = some r.1 ∧ s = r.2) ∨ ∃ sp, c.io = some sp ∧ ioRead sp a s = r := by
  obtain ⟨v, u⟩ := r
  unfold srcRead
  split
  · next sp h => simp [h]
  · next h =>
    simp only [h, bind_ok, memRead_ok, Except.ok.injEq, Prod.mk.injEq, true_and, reduceCtorEq, false_and, exists_false, or_false]
    exact ⟨fun ⟨_, h, e, e'⟩ => ⟨e ▸ h, e'⟩, fun ⟨h, e'⟩ => ⟨_, h, rfl, e'⟩⟩

theorem srcRead_error {c : Ctx} {a : Word} {e : Fault} :
    srcRead c a s = .error e ↔ c.io = none ∧ s.byteAt a = none ∧ e = .unwrittenMemory (s.phys a) := by
  unfold srcRead
  split
  · next sp h => simp [h]
  · next h => simp [h, bind_error, memRead_error]

theorem srcRead16_ok {c : Ctx} {a : Word} {r : Word × State} :
    srcRead16 c a s = .ok r ↔
      ∃ x y : Byte × State, srcRead c a s = .ok x ∧ srcRead c (a + 1) x.2 = .ok y ∧ r = (pair y.1 x.1, y.2) := by
  unfold srcRead16
  constructor
  · intro h
    obtain ⟨x, hx, h⟩ := bind_ok.1 h
    obtain ⟨y, hy, h⟩ := bind_ok.1 h
    exact ⟨x, y, hx, hy, by simpa using h.symm⟩
  · rintro ⟨x, y, hx, hy, rfl⟩
    exact bind_ok.2 ⟨x, hx, bind_ok.2 ⟨y, hy, rfl⟩⟩

theorem pop8_ok {r : Byte × State} :
    pop8 s = .ok r ↔ s.byteAt s.sp = some r.1 ∧ { s with sp := s.sp + 1 } = r.2 := by
  obtain ⟨v, u⟩ := r
  simp only [pop8, bind_ok, memRead_ok, Except.ok.injEq, Prod.mk.injEq]
  exact ⟨fun ⟨_, h, e, e'⟩ => ⟨e ▸ h, e'⟩, fun ⟨h, e'⟩ => ⟨_, h, rfl, e'⟩⟩

theorem pop16_ok {r : Word × State} :
    pop16 s = .ok r ↔ memRead16 s.sp s = .ok r.1 ∧ { s with sp := s.sp + 2 } = r.2 := by
  obtain ⟨v, u⟩ := r
  simp only [pop16, bind_ok, Except.ok.injEq, Prod.mk.injEq]
  exact ⟨fun ⟨_, h, e, e'⟩ => ⟨e ▸ h, e'⟩, fun ⟨h, e'⟩ => ⟨_, h, rfl, e'⟩⟩

/-- One byte of a block move. -/
theorem blockOnce_ok {d : Word} {c : Ctx} :
    blockOnce d c s = .ok t ↔ ∃ v, s.byteAt s.hl = some v ∧
      t = { dstWrite c s.de v s with
            main := (((s.main.setPair .bc (s.bc - 1)).setPair .de (s.de + d)).setPair .hl (s.hl + d)).setFlags
              (blockFlags (s.bc - 1)) } := by
  simp only [blockOnce, bind_ok, memRead_ok]
  constructor
  · rintro ⟨v, hv, h⟩
    refine ⟨v, hv, ?_⟩
    injection h with h
    rw [← h]
    simp [State.bc, State.de, State.hl]
  · rintro ⟨v, hv, rfl⟩
    exact ⟨v, hv, by simp [State.bc, State.de, State.hl]⟩

/-- A block move of `n + 1` bytes is a move of one byte and then of `n`. -/
theorem blockLoop_succ_ok {d : Word} {c : Ctx} {n : Nat} :
    blockLoop d (n + 1) c s = .ok t ↔ ∃ u, blockOnce d c s = .ok u ∧ blockLoop d n c u = .ok t := bind_ok

/-- IOI and IOE run where the io latch is clear. -/
theorem selectIo_next {x : IoSpace} :
    selectIo x s = .next t ↔ s.io = none ∧ t = { s with io := some x, hold := true, iobug := none } := by
  unfold selectIo
  split <;> simp [*, eq_comm]

theorem selectIo_refused {x : IoSpace} {r : Refusal} :
    selectIo x s = .refused r ↔ s.io ≠ none ∧ r = .secondIoPrefix := by
  unfold selectIo
  split <;> simp [*, eq_comm]

/-- A step is an interrupt entry or an instruction. -/
theorem step_next :
    step s = .next t ↔
      (∃ r, interruptNow s = some r ∧ t = takeInterrupt r (afterAsking s)) ∨
      (interruptNow s = none ∧ ∃ i len, fetched (afterAsking s) = .ok i len ∧
        exec i (advance len (afterAsking s)) = .next t) := by
  unfold step runInstruction
  split
  · next r h => simp [h, eq_comm]
  · next h =>
    simp only [h, reduceCtorEq, false_and, exists_false, true_and, false_or]
    split
    · next i len hf =>
      simp only [hf, Decoded.ok.injEq]
      exact ⟨fun h => ⟨i, len, ⟨rfl, rfl⟩, h⟩, fun ⟨_, _, ⟨h, h'⟩, e⟩ => h ▸ h' ▸ e⟩
    · next hf => simp [hf]
    · next hf => simp [hf]

end Sys2Proof.Machine
end

