-- ==== Sys2Proof/Laws/Bodies.lean ====
section
/-! SUPPORT. What each shared body can do: the one state it answers, or the accesses it depends on and the state it
answers after them. -/

namespace Sys2Proof.Machine

variable {s t : State} {c : Ctx}

theorem ok_eq {ε α : Type} {a b : α} : (Except.ok a : Except ε α) = .ok b ↔ b = a :=
  ⟨fun h => (Except.ok.inj h).symm, fun h => h ▸ rfl⟩

/-! ### Bodies that always answer -/

theorem setByte_ok {r : Reg8} {v : State → Byte} : setByte r v c s = .ok t ↔ t = dst8 c r (v s) s := ok_eq

theorem setWord_ok {r : WordReg} {w : State → Word} : setWord r w c s = .ok t ↔ t = r.dst c (w s) s := ok_eq

theorem setWordFlags_ok {r : WordReg} {w : State → Word} {f : State → FlagWrite} :
    setWordFlags r w f c s = .ok t ↔ t = setFlags c (f s) (r.dst c (w s) s) := ok_eq

theorem arith16_ok {r : WordReg} {g : State → Arith 16} {f : Arith 16 → FlagWrite} :
    arith16 r g f c s = .ok t ↔ t = setFlags c (f (g s)) (r.dst c (g s).res s) := setWordFlags_ok

theorem logic16_ok {r : WordReg} {g : State → Word} :
    logic16 r g c s = .ok t ↔ t = setFlags c (logicFlags (g s) false) (r.dst c (g s) s) := setWordFlags_ok

theorem boolWord_ok {r : WordReg} :
    boolWord r c s = .ok t ↔ t = setFlags c (boolFlags (boolValue (r.read s))) (r.dst c (boolValue (r.read s)) s) :=
  setWordFlags_ok

theorem rotateRightWord_ok {r : WordReg} :
    rotateRightWord r c s = .ok t ↔
      t = setFlags c (logicFlags (rotateRight16 (r.read s) s.cf) ((r.read s).getLsbD 0))
        (r.dst c (rotateRight16 (r.read s) s.cf) s) := setWordFlags_ok

theorem modifyReg_ok {r : Reg8} {g : Byte → Byte} {f : Byte → FlagWrite} :
    modifyReg r g f c s = .ok t ↔ t = setFlags c (f (s.main.get r)) (dst8 c r (g (s.main.get r)) s) := ok_eq

theorem shiftReg_ok {op : ShiftOp} {r : Reg8} :
    shiftReg op r c s = .ok t ↔
      t = setFlags c (logicFlags (op.value (s.main.get r) s.cf) (op.carry (s.main.get r)))
        (dst8 c r (op.value (s.main.get r) s.cf) s) := modifyReg_ok

theorem rotateA_ok {op : ShiftOp} :
    rotateA op c s = .ok t ↔ t = setFlags c { c := op.carry s.main.a } (dst8 c .a (op.value s.main.a s.cf) s) :=
  modifyReg_ok

theorem storeByte_ok {m : MemAt} {v : State → Byte} : storeByte m v c s = .ok t ↔ t = dstWrite c (m.addr s) (v s) s := ok_eq

theorem storeWord_ok {m : MemAt} {r : WordReg} :
    storeWord m r c s = .ok t ↔ t = dstWrite16 c (m.addr s) (r.read s) s := ok_eq

theorem storeFrame_ok {n : Byte} {r : WordReg} :
    storeFrame n r c s = .ok t ↔ t = memWrite16 (spnAddr n s) (r.read s) s := ok_eq

theorem storePhys_ok {a : State → Word} {r : WordReg} :
    storePhys a r c s = .ok t ↔ t = physWrite16 (ldpAddr s.main.a (a s)) (r.read s) s := ok_eq

theorem pushWord_ok {r : WordReg} : pushWord r c s = .ok t ↔ t = push16 (r.read s) s := ok_eq

theorem callTo_ok {a : State → Word} : callTo a c s = .ok t ↔ t = { push16 s.pc s with pc := a s } := ok_eq

theorem jumpIf_ok {p : State → Bool} {a : State → Word} :
    jumpIf p a c s = .ok t ↔ t = if p s then { s with pc := a s } else s := ok_eq

theorem ipSet_ok {p : BitVec 2} : ipSet p c s = .ok t ↔ t = { s with ip := pushPriority s.ip p } := ok_eq

/-! ### Bodies that read memory first -/

/-- A byte operand that was read: only a memory operand may have changed anything, and only the I/O surroundings. -/
theorem byteSrc_ok {o : ByteSrc} {r : Byte × State} :
    o.read c s = .ok r ↔
      (∃ q, o = .reg q ∧ r = (s.main.get q, s)) ∨ (∃ n, o = .imm n ∧ r = (n, s)) ∨
        ∃ m, o = .mem m ∧ srcRead c (m.addr s) s = .ok r := by
  cases o <;> simp [ByteSrc.read, eq_comm (a := r)]

theorem loadByte_ok {r : Reg8} {m : MemAt} :
    loadByte r m c s = .ok t ↔ ∃ v u, srcRead c (m.addr s) s = .ok (v, u) ∧ t = dst8 c r v u := by
  simp only [loadByte, bind_ok, ok_eq, Prod.exists]

theorem loadWord_ok {r : WordReg} {m : MemAt} :
    loadWord r m c s = .ok t ↔ ∃ w u, srcRead16 c (m.addr s) s = .ok (w, u) ∧ t = r.dst c w u := by
  simp only [loadWord, bind_ok, ok_eq, Prod.exists]

theorem loadFrame_ok {r : WordReg} {n : Byte} :
    loadFrame r n c s = .ok t ↔ ∃ w, memRead16 (spnAddr n s) s = .ok w ∧ t = r.dst c w s := by
  simp only [loadFrame, bind_ok, ok_eq]

theorem loadPhys_ok {r : WordReg} {a : State → Word} :
    loadPhys r a c s = .ok t ↔ ∃ w, physRead16 (ldpAddr s.main.a (a s)) s = .ok w ∧ t = r.dst c w s := by
  simp only [loadPhys, bind_ok, ok_eq]

theorem exchangeTop_ok {r : WordReg} :
    exchangeTop r c s = .ok t ↔ ∃ w, memRead16 s.sp s = .ok w ∧ t = r.dst c w (memWrite16 s.sp (r.read s) s) := by
  simp only [exchangeTop, bind_ok, ok_eq]

theorem popWord_ok {r : WordReg} :
    popWord r c s = .ok t ↔ ∃ w, memRead16 s.sp s = .ok w ∧ t = r.dst c w { s with sp := s.sp + 2 } := by
  simp only [popWord, bind_ok, pop16_ok, ok_eq, Prod.exists]
  exact ⟨fun ⟨w, _, ⟨h, e⟩, e'⟩ => ⟨w, h, e ▸ e'⟩, fun ⟨w, h, e⟩ => ⟨w, _, ⟨h, rfl⟩, e⟩⟩

theorem alu_ok {op : AluOp} {o : ByteSrc} :
    alu op o c s = .ok t ↔ ∃ v u, o.read c s = .ok (v, u) ∧
      t = setFlags c (op.flags s.main.a v s.cf) (if op = .cp then u else dst8 c .a (op.value s.main.a v s.cf) u) := by
  simp only [alu, bind_ok, ok_eq, Prod.exists]

theorem modifyMem_ok {m : MemAt} {g : Byte → Byte} {f : Byte → FlagWrite} :
    modifyMem m g f c s = .ok t ↔ ∃ v u, srcRead c (m.addr s) s = .ok (v, u) ∧
      t = setFlags c (f v) (dstWrite c (m.addr s) (g v) u) := by
  simp only [modifyMem, bind_ok, ok_eq, Prod.exists]

theorem shiftMem_ok {op : ShiftOp} {m : MemAt} :
    shiftMem op m c s = .ok t ↔ ∃ v u, srcRead c (m.addr s) s = .ok (v, u) ∧
      t = setFlags c (logicFlags (op.value v s.cf) (op.carry v)) (dstWrite c (m.addr s) (op.value v s.cf) u) :=
  modifyMem_ok

theorem testBit_ok {b : BitVec 3} {o : ByteSrc} :
    testBit b o c s = .ok t ↔ ∃ v u, o.read c s = .ok (v, u) ∧ t = setFlags c { z := !v.getLsbD b.toNat } u := by
  simp only [testBit, bind_ok, ok_eq, Prod.exists]

theorem returnBody_ok :
    returnBody c s = .ok t ↔ ∃ w, memRead16 s.sp s = .ok w ∧ t = { s with sp := s.sp + 2, pc := w } := by
  simp only [returnBody, bind_ok, pop16_ok, ok_eq, Prod.exists]
  constructor
  · rintro ⟨w, u, ⟨h, rfl⟩, rfl⟩
    exact ⟨w, h, rfl⟩
  · rintro ⟨w, h, rfl⟩
    exact ⟨w, _, ⟨h, rfl⟩, rfl⟩

/-- IP comes from SP, PC from the word at SP + 1 (46_control_misc.md R468). -/
theorem returnFromInterrupt_ok :
    returnFromInterrupt s = .ok t ↔ ∃ v w, s.byteAt s.sp = some v ∧ memRead16 (s.sp + 1) { s with sp := s.sp + 1 } = .ok w ∧
      t = { s with sp := s.sp + 1 + 2, pc := w, ip := v } := by
  simp only [returnFromInterrupt, bind_ok, pop8_ok, pop16_ok, Except.ok.injEq]
  constructor
  · rintro ⟨⟨v, u⟩, ⟨h, rfl⟩, ⟨w, x⟩, ⟨h', rfl⟩, rfl⟩
    exact ⟨v, w, h, h', rfl⟩
  · rintro ⟨v, w, h, h', rfl⟩
    exact ⟨(v, _), ⟨h, rfl⟩, (w, _), ⟨h', rfl⟩, rfl⟩

/-! ### The surroundings of an access -/

/-- A source access changes nothing but the I/O surroundings, and those only under an I/O selection. -/
theorem srcRead_shape {a : Word} {v : Byte} {u : State} (h : srcRead c a s = .ok (v, u)) :
    (c.io = none → u = s) ∧ ∃ i d e, u = { s with ioIn := i, ioDraws := d, ioTrace := e } := by
  rcases srcRead_ok.1 h with ⟨hc, -, rfl⟩ | ⟨sp, hc, hr⟩
  · exact ⟨fun _ => rfl, _, _, _, rfl⟩
  · refine ⟨fun h => absurd (h.symm.trans hc) (by simp), ?_⟩
    unfold ioRead at hr
    split at hr <;> injection hr with h1 h2 <;> exact ⟨_, _, _, h2.symm⟩

theorem srcRead16_shape {a w : Word} {u : State} (h : srcRead16 c a s = .ok (w, u)) :
    (c.io = none → u = s) ∧ ∃ i d e, u = { s with ioIn := i, ioDraws := d, ioTrace := e } := by
  obtain ⟨⟨v, u1⟩, ⟨v', u2⟩, h1, h2, e⟩ := srcRead16_ok.1 h
  obtain ⟨n1, i1, d1, e1, rfl⟩ := srcRead_shape h1
  obtain ⟨n2, i2, d2, e2, rfl⟩ := srcRead_shape h2
  injection e with _ e
  subst e
  exact ⟨fun h => (n2 h).trans (n1 h), _, _, _, rfl⟩

/-- A destination access is a memory write without an I/O selection and an I/O write with one. -/
theorem dstWrite_shape (c : Ctx) (a : Word) (v : Byte) (s : State) :
    (c.io = none ∧ dstWrite c a v s = memWrite a v s) ∨ ∃ x, c.io = some x ∧ dstWrite c a v s = ioWrite x a v s := by
  unfold dstWrite
  split
  · next x h => exact .inr ⟨x, h, rfl⟩
  · next h => exact .inl ⟨h, rfl⟩

/-- A byte of memory after a byte store: the stored byte at its address, any other byte as before. -/
theorem physByte_memWrite (a : Word) (v : Byte) (p : PhysAddr) :
    (memWrite a v s).physByte p = if p = s.phys a then some v else s.physByte p := by
  split
  · next h => exact h ▸ physByte_physWrite_same _ _
  · next h => exact physByte_physWrite_other h v

end Sys2Proof.Machine
end

