-- ==== Sys2Proof/Laws/PerInstr.lean ====
section
/-! SUPPORT. Facts about every instruction as syntax, one lemma for each constructor. -/

namespace Sys2Proof.Laws

/-- An instruction has one to four bytes, so that the four bytes a fetch reads hold it (30_encoding.md R100). -/
def EncodeLength.Statement (i : Instr) : Prop := 1 ≤ (encode i).length ∧ (encode i).length ≤ 4

/-- A known length between one and four. -/
theorem encodeLength_of {i : Instr} (n : Nat) (h : (encode i).length = n) (hn : n ∈ [1, 2, 3, 4]) :
    EncodeLength.Statement i := by
  simp only [EncodeLength.Statement, h]
  simp at hn
  omega

theorem EncodeLength.adcAAtHl : EncodeLength.Statement .adcAAtHl := encodeLength_of 1 rfl (by decide)
theorem EncodeLength.adcAAtIxd (d : Byte) : EncodeLength.Statement (.adcAAtIxd d) := encodeLength_of 3 rfl (by decide)
theorem EncodeLength.adcAAtIyd (d : Byte) : EncodeLength.Statement (.adcAAtIyd d) := encodeLength_of 3 rfl (by decide)
theorem EncodeLength.adcAN (n : Byte) : EncodeLength.Statement (.adcAN n) := encodeLength_of 2 rfl (by decide)
theorem EncodeLength.adcAR (r : Reg8) : EncodeLength.Statement (.adcAR r) := encodeLength_of 1 rfl (by decide)
theorem EncodeLength.addAAtHl : EncodeLength.Statement .addAAtHl := encodeLength_of 1 rfl (by decide)
theorem EncodeLength.addAAtIxd (d : Byte) : EncodeLength.Statement (.addAAtIxd d) := encodeLength_of 3 rfl (by decide)
theorem EncodeLength.addAAtIyd (d : Byte) : EncodeLength.Statement (.addAAtIyd d) := encodeLength_of 3 rfl (by decide)
theorem EncodeLength.addAN (n : Byte) : EncodeLength.Statement (.addAN n) := encodeLength_of 2 rfl (by decide)
theorem EncodeLength.addAR (r : Reg8) : EncodeLength.Statement (.addAR r) := encodeLength_of 1 rfl (by decide)
theorem EncodeLength.andAtHl : EncodeLength.Statement .andAtHl := encodeLength_of 1 rfl (by decide)
theorem EncodeLength.andAtIxd (d : Byte) : EncodeLength.Statement (.andAtIxd d) := encodeLength_of 3 rfl (by decide)
theorem EncodeLength.andAtIyd (d : Byte) : EncodeLength.Statement (.andAtIyd d) := encodeLength_of 3 rfl (by decide)
theorem EncodeLength.andN (n : Byte) : EncodeLength.Statement (.andN n) := encodeLength_of 2 rfl (by decide)
theorem EncodeLength.andR (r : Reg8) : EncodeLength.Statement (.andR r) := encodeLength_of 1 rfl (by decide)
theorem EncodeLength.cpAtHl : EncodeLength.Statement .cpAtHl := encodeLength_of 1 rfl (by decide)
theorem EncodeLength.cpAtIxd (d : Byte) : EncodeLength.Statement (.cpAtIxd d) := encodeLength_of 3 rfl (by decide)
theorem EncodeLength.cpAtIyd (d : Byte) : EncodeLength.Statement (.cpAtIyd d) := encodeLength_of 3 rfl (by decide)
theorem EncodeLength.cpN (n : Byte) : EncodeLength.Statement (.cpN n) := encodeLength_of 2 rfl (by decide)
theorem EncodeLength.cpR (r : Reg8) : EncodeLength.Statement (.cpR r) := encodeLength_of 1 rfl (by decide)
theorem EncodeLength.orAtHl : EncodeLength.Statement .orAtHl := encodeLength_of 1 rfl (by decide)
theorem EncodeLength.orAtIxd (d : Byte) : EncodeLength.Statement (.orAtIxd d) := encodeLength_of 3 rfl (by decide)
theorem EncodeLength.orAtIyd (d : Byte) : EncodeLength.Statement (.orAtIyd d) := encodeLength_of 3 rfl (by decide)
theorem EncodeLength.orN (n : Byte) : EncodeLength.Statement (.orN n) := encodeLength_of 2 rfl (by decide)
theorem EncodeLength.orR (r : Reg8) : EncodeLength.Statement (.orR r) := encodeLength_of 1 rfl (by decide)
theorem EncodeLength.sbcAAtHl : EncodeLength.Statement .sbcAAtHl := encodeLength_of 1 rfl (by decide)
theorem EncodeLength.sbcAAtIxd (d : Byte) : EncodeLength.Statement (.sbcAAtIxd d) := encodeLength_of 3 rfl (by decide)
theorem EncodeLength.sbcAAtIyd (d : Byte) : EncodeLength.Statement (.sbcAAtIyd d) := encodeLength_of 3 rfl (by decide)
theorem EncodeLength.sbcAN (n : Byte) : EncodeLength.Statement (.sbcAN n) := encodeLength_of 2 rfl (by decide)
theorem EncodeLength.sbcAR (r : Reg8) : EncodeLength.Statement (.sbcAR r) := encodeLength_of 1 rfl (by decide)
theorem EncodeLength.subAtHl : EncodeLength.Statement .subAtHl := encodeLength_of 1 rfl (by decide)
theorem EncodeLength.subAtIxd (d : Byte) : EncodeLength.Statement (.subAtIxd d) := encodeLength_of 3 rfl (by decide)
theorem EncodeLength.subAtIyd (d : Byte) : EncodeLength.Statement (.subAtIyd d) := encodeLength_of 3 rfl (by decide)
theorem EncodeLength.subN (n : Byte) : EncodeLength.Statement (.subN n) := encodeLength_of 2 rfl (by decide)
theorem EncodeLength.subR (r : Reg8) : EncodeLength.Statement (.subR r) := encodeLength_of 1 rfl (by decide)
theorem EncodeLength.xorAtHl : EncodeLength.Statement .xorAtHl := encodeLength_of 1 rfl (by decide)
theorem EncodeLength.xorAtIxd (d : Byte) : EncodeLength.Statement (.xorAtIxd d) := encodeLength_of 3 rfl (by decide)
theorem EncodeLength.xorAtIyd (d : Byte) : EncodeLength.Statement (.xorAtIyd d) := encodeLength_of 3 rfl (by decide)
theorem EncodeLength.xorN (n : Byte) : EncodeLength.Statement (.xorN n) := encodeLength_of 2 rfl (by decide)
theorem EncodeLength.xorR (r : Reg8) : EncodeLength.Statement (.xorR r) := encodeLength_of 1 rfl (by decide)
theorem EncodeLength.neg : EncodeLength.Statement .neg := encodeLength_of 2 rfl (by decide)
theorem EncodeLength.decAtHl : EncodeLength.Statement .decAtHl := encodeLength_of 1 rfl (by decide)
theorem EncodeLength.decAtIxd (d : Byte) : EncodeLength.Statement (.decAtIxd d) := encodeLength_of 3 rfl (by decide)
theorem EncodeLength.decAtIyd (d : Byte) : EncodeLength.Statement (.decAtIyd d) := encodeLength_of 3 rfl (by decide)
theorem EncodeLength.decR (r : Reg8) : EncodeLength.Statement (.decR r) := encodeLength_of 1 rfl (by decide)
theorem EncodeLength.incAtHl : EncodeLength.Statement .incAtHl := encodeLength_of 1 rfl (by decide)
theorem EncodeLength.incAtIxd (d : Byte) : EncodeLength.Statement (.incAtIxd d) := encodeLength_of 3 rfl (by decide)
theorem EncodeLength.incAtIyd (d : Byte) : EncodeLength.Statement (.incAtIyd d) := encodeLength_of 3 rfl (by decide)
theorem EncodeLength.incR (r : Reg8) : EncodeLength.Statement (.incR r) := encodeLength_of 1 rfl (by decide)
theorem EncodeLength.cpl : EncodeLength.Statement .cpl := encodeLength_of 1 rfl (by decide)
theorem EncodeLength.rla : EncodeLength.Statement .rla := encodeLength_of 1 rfl (by decide)
theorem EncodeLength.rlca : EncodeLength.Statement .rlca := encodeLength_of 1 rfl (by decide)
theorem EncodeLength.rra : EncodeLength.Statement .rra := encodeLength_of 1 rfl (by decide)
theorem EncodeLength.rrca : EncodeLength.Statement .rrca := encodeLength_of 1 rfl (by decide)
theorem EncodeLength.bitBAtHl (b : BitVec 3) : EncodeLength.Statement (.bitBAtHl b) :=
  encodeLength_of 2 rfl (by decide)
theorem EncodeLength.bitBAtIxd (b : BitVec 3) (d : Byte) : EncodeLength.Statement (.bitBAtIxd b d) :=
  encodeLength_of 4 rfl (by decide)
theorem EncodeLength.bitBAtIyd (b : BitVec 3) (d : Byte) : EncodeLength.Statement (.bitBAtIyd b d) :=
  encodeLength_of 4 rfl (by decide)
theorem EncodeLength.bitBR (b : BitVec 3) (r : Reg8) : EncodeLength.Statement (.bitBR b r) :=
  encodeLength_of 2 rfl (by decide)
theorem EncodeLength.resBAtHl (b : BitVec 3) : EncodeLength.Statement (.resBAtHl b) :=
  encodeLength_of 2 rfl (by decide)
theorem EncodeLength.resBAtIxd (b : BitVec 3) (d : Byte) : EncodeLength.Statement (.resBAtIxd b d) :=
  encodeLength_of 4 rfl (by decide)
theorem EncodeLength.resBAtIyd (b : BitVec 3) (d : Byte) : EncodeLength.Statement (.resBAtIyd b d) :=
  encodeLength_of 4 rfl (by decide)
theorem EncodeLength.resBR (b : BitVec 3) (r : Reg8) : EncodeLength.Statement (.resBR b r) :=
  encodeLength_of 2 rfl (by decide)
theorem EncodeLength.setBAtHl (b : BitVec 3) : EncodeLength.Statement (.setBAtHl b) :=
  encodeLength_of 2 rfl (by decide)
theorem EncodeLength.setBAtIxd (b : BitVec 3) (d : Byte) : EncodeLength.Statement (.setBAtIxd b d) :=
  encodeLength_of 4 rfl (by decide)
theorem EncodeLength.setBAtIyd (b : BitVec 3) (d : Byte) : EncodeLength.Statement (.setBAtIyd b d) :=
  encodeLength_of 4 rfl (by decide)
theorem EncodeLength.setBR (b : BitVec 3) (r : Reg8) : EncodeLength.Statement (.setBR b r) :=
  encodeLength_of 2 rfl (by decide)
theorem EncodeLength.rlAtHl : EncodeLength.Statement .rlAtHl := encodeLength_of 2 rfl (by decide)
theorem EncodeLength.rlAtIxd (d : Byte) : EncodeLength.Statement (.rlAtIxd d) := encodeLength_of 4 rfl (by decide)
theorem EncodeLength.rlAtIyd (d : Byte) : EncodeLength.Statement (.rlAtIyd d) := encodeLength_of 4 rfl (by decide)
theorem EncodeLength.rlR (r : Reg8) : EncodeLength.Statement (.rlR r) := encodeLength_of 2 rfl (by decide)
theorem EncodeLength.rlcAtHl : EncodeLength.Statement .rlcAtHl := encodeLength_of 2 rfl (by decide)
theorem EncodeLength.rlcAtIxd (d : Byte) : EncodeLength.Statement (.rlcAtIxd d) := encodeLength_of 4 rfl (by decide)
theorem EncodeLength.rlcAtIyd (d : Byte) : EncodeLength.Statement (.rlcAtIyd d) := encodeLength_of 4 rfl (by decide)
theorem EncodeLength.rlcR (r : Reg8) : EncodeLength.Statement (.rlcR r) := encodeLength_of 2 rfl (by decide)
theorem EncodeLength.rrAtHl : EncodeLength.Statement .rrAtHl := encodeLength_of 2 rfl (by decide)
theorem EncodeLength.rrAtIxd (d : Byte) : EncodeLength.Statement (.rrAtIxd d) := encodeLength_of 4 rfl (by decide)
theorem EncodeLength.rrAtIyd (d : Byte) : EncodeLength.Statement (.rrAtIyd d) := encodeLength_of 4 rfl (by decide)
theorem EncodeLength.rrR (r : Reg8) : EncodeLength.Statement (.rrR r) := encodeLength_of 2 rfl (by decide)
theorem EncodeLength.rrcAtHl : EncodeLength.Statement .rrcAtHl := encodeLength_of 2 rfl (by decide)
theorem EncodeLength.rrcAtIxd (d : Byte) : EncodeLength.Statement (.rrcAtIxd d) := encodeLength_of 4 rfl (by decide)
theorem EncodeLength.rrcAtIyd (d : Byte) : EncodeLength.Statement (.rrcAtIyd d) := encodeLength_of 4 rfl (by decide)
theorem EncodeLength.rrcR (r : Reg8) : EncodeLength.Statement (.rrcR r) := encodeLength_of 2 rfl (by decide)
theorem EncodeLength.slaAtHl : EncodeLength.Statement .slaAtHl := encodeLength_of 2 rfl (by decide)
theorem EncodeLength.slaAtIxd (d : Byte) : EncodeLength.Statement (.slaAtIxd d) := encodeLength_of 4 rfl (by decide)
theorem EncodeLength.slaAtIyd (d : Byte) : EncodeLength.Statement (.slaAtIyd d) := encodeLength_of 4 rfl (by decide)
theorem EncodeLength.slaR (r : Reg8) : EncodeLength.Statement (.slaR r) := encodeLength_of 2 rfl (by decide)
theorem EncodeLength.sraAtHl : EncodeLength.Statement .sraAtHl := encodeLength_of 2 rfl (by decide)
theorem EncodeLength.sraAtIxd (d : Byte) : EncodeLength.Statement (.sraAtIxd d) := encodeLength_of 4 rfl (by decide)
theorem EncodeLength.sraAtIyd (d : Byte) : EncodeLength.Statement (.sraAtIyd d) := encodeLength_of 4 rfl (by decide)
theorem EncodeLength.sraR (r : Reg8) : EncodeLength.Statement (.sraR r) := encodeLength_of 2 rfl (by decide)
theorem EncodeLength.srlAtHl : EncodeLength.Statement .srlAtHl := encodeLength_of 2 rfl (by decide)
theorem EncodeLength.srlAtIxd (d : Byte) : EncodeLength.Statement (.srlAtIxd d) := encodeLength_of 4 rfl (by decide)
theorem EncodeLength.srlAtIyd (d : Byte) : EncodeLength.Statement (.srlAtIyd d) := encodeLength_of 4 rfl (by decide)
theorem EncodeLength.srlR (r : Reg8) : EncodeLength.Statement (.srlR r) := encodeLength_of 2 rfl (by decide)
theorem EncodeLength.adcHlSs (ss : RegSs) : EncodeLength.Statement (.adcHlSs ss) := encodeLength_of 2 rfl (by decide)
theorem EncodeLength.addHlSs (ss : RegSs) : EncodeLength.Statement (.addHlSs ss) := encodeLength_of 1 rfl (by decide)
theorem EncodeLength.addIxXx (xx : RegXx) : EncodeLength.Statement (.addIxXx xx) := encodeLength_of 2 rfl (by decide)
theorem EncodeLength.addIyYy (yy : RegYy) : EncodeLength.Statement (.addIyYy yy) := encodeLength_of 2 rfl (by decide)
theorem EncodeLength.addSpD (d : Byte) : EncodeLength.Statement (.addSpD d) := encodeLength_of 2 rfl (by decide)
theorem EncodeLength.andHlDe : EncodeLength.Statement .andHlDe := encodeLength_of 1 rfl (by decide)
theorem EncodeLength.andIxDe : EncodeLength.Statement .andIxDe := encodeLength_of 2 rfl (by decide)
theorem EncodeLength.andIyDe : EncodeLength.Statement .andIyDe := encodeLength_of 2 rfl (by decide)
theorem EncodeLength.orHlDe : EncodeLength.Statement .orHlDe := encodeLength_of 1 rfl (by decide)
theorem EncodeLength.orIxDe : EncodeLength.Statement .orIxDe := encodeLength_of 2 rfl (by decide)
theorem EncodeLength.orIyDe : EncodeLength.Statement .orIyDe := encodeLength_of 2 rfl (by decide)
theorem EncodeLength.boolHl : EncodeLength.Statement .boolHl := encodeLength_of 1 rfl (by decide)
theorem EncodeLength.boolIx : EncodeLength.Statement .boolIx := encodeLength_of 2 rfl (by decide)
theorem EncodeLength.boolIy : EncodeLength.Statement .boolIy := encodeLength_of 2 rfl (by decide)
theorem EncodeLength.decIx : EncodeLength.Statement .decIx := encodeLength_of 2 rfl (by decide)
theorem EncodeLength.decIy : EncodeLength.Statement .decIy := encodeLength_of 2 rfl (by decide)
theorem EncodeLength.decSs (ss : RegSs) : EncodeLength.Statement (.decSs ss) := encodeLength_of 1 rfl (by decide)
theorem EncodeLength.incIx : EncodeLength.Statement .incIx := encodeLength_of 2 rfl (by decide)
theorem EncodeLength.incIy : EncodeLength.Statement .incIy := encodeLength_of 2 rfl (by decide)
theorem EncodeLength.incSs (ss : RegSs) : EncodeLength.Statement (.incSs ss) := encodeLength_of 1 rfl (by decide)
theorem EncodeLength.mul : EncodeLength.Statement .mul := encodeLength_of 1 rfl (by decide)
theorem EncodeLength.rlDe : EncodeLength.Statement .rlDe := encodeLength_of 1 rfl (by decide)
theorem EncodeLength.rrDe : EncodeLength.Statement .rrDe := encodeLength_of 1 rfl (by decide)
theorem EncodeLength.rrHl : EncodeLength.Statement .rrHl := encodeLength_of 1 rfl (by decide)
theorem EncodeLength.rrIx : EncodeLength.Statement .rrIx := encodeLength_of 2 rfl (by decide)
theorem EncodeLength.rrIy : EncodeLength.Statement .rrIy := encodeLength_of 2 rfl (by decide)
theorem EncodeLength.sbcHlSs (ss : RegSs) : EncodeLength.Statement (.sbcHlSs ss) := encodeLength_of 2 rfl (by decide)
theorem EncodeLength.ldIxMn (mn : Word) : EncodeLength.Statement (.ldIxMn mn) := encodeLength_of 4 rfl (by decide)
theorem EncodeLength.ldIyMn (mn : Word) : EncodeLength.Statement (.ldIyMn mn) := encodeLength_of 4 rfl (by decide)
theorem EncodeLength.ldDdMn (dd : RegSs) (mn : Word) : EncodeLength.Statement (.ldDdMn dd mn) :=
  encodeLength_of 3 rfl (by decide)
theorem EncodeLength.ldRN (r : Reg8) (n : Byte) : EncodeLength.Statement (.ldRN r n) :=
  encodeLength_of 2 rfl (by decide)
theorem EncodeLength.ldAtMnA (mn : Word) : EncodeLength.Statement (.ldAtMnA mn) := encodeLength_of 3 rfl (by decide)
theorem EncodeLength.ldAAtMn (mn : Word) : EncodeLength.Statement (.ldAAtMn mn) := encodeLength_of 3 rfl (by decide)
theorem EncodeLength.ldAtMnHl (mn : Word) : EncodeLength.Statement (.ldAtMnHl mn) := encodeLength_of 3 rfl (by decide)
theorem EncodeLength.ldAtMnIx (mn : Word) : EncodeLength.Statement (.ldAtMnIx mn) := encodeLength_of 4 rfl (by decide)
theorem EncodeLength.ldAtMnIy (mn : Word) : EncodeLength.Statement (.ldAtMnIy mn) := encodeLength_of 4 rfl (by decide)
theorem EncodeLength.ldAtMnSs (mn : Word) (ss : RegSs) : EncodeLength.Statement (.ldAtMnSs mn ss) :=
  encodeLength_of 4 rfl (by decide)
theorem EncodeLength.ldHlAtMn (mn : Word) : EncodeLength.Statement (.ldHlAtMn mn) := encodeLength_of 3 rfl (by decide)
theorem EncodeLength.ldIxAtMn (mn : Word) : EncodeLength.Statement (.ldIxAtMn mn) := encodeLength_of 4 rfl (by decide)
theorem EncodeLength.ldIyAtMn (mn : Word) : EncodeLength.Statement (.ldIyAtMn mn) := encodeLength_of 4 rfl (by decide)
theorem EncodeLength.ldDdAtMn (dd : RegSs) (mn : Word) : EncodeLength.Statement (.ldDdAtMn dd mn) :=
  encodeLength_of 4 rfl (by decide)
theorem EncodeLength.ldAtBcA : EncodeLength.Statement .ldAtBcA := encodeLength_of 1 rfl (by decide)
theorem EncodeLength.ldAtDeA : EncodeLength.Statement .ldAtDeA := encodeLength_of 1 rfl (by decide)
theorem EncodeLength.ldAtHlN (n : Byte) : EncodeLength.Statement (.ldAtHlN n) := encodeLength_of 2 rfl (by decide)
theorem EncodeLength.ldAtHlR (r : Reg8) : EncodeLength.Statement (.ldAtHlR r) := encodeLength_of 1 rfl (by decide)
theorem EncodeLength.ldRAtHl (r : Reg8) : EncodeLength.Statement (.ldRAtHl r) := encodeLength_of 1 rfl (by decide)
theorem EncodeLength.ldAAtBc : EncodeLength.Statement .ldAAtBc := encodeLength_of 1 rfl (by decide)
theorem EncodeLength.ldAAtDe : EncodeLength.Statement .ldAAtDe := encodeLength_of 1 rfl (by decide)
theorem EncodeLength.ldAtIxdN (d : Byte) (n : Byte) : EncodeLength.Statement (.ldAtIxdN d n) :=
  encodeLength_of 4 rfl (by decide)
theorem EncodeLength.ldAtIxdR (d : Byte) (r : Reg8) : EncodeLength.Statement (.ldAtIxdR d r) :=
  encodeLength_of 3 rfl (by decide)
theorem EncodeLength.ldRAtIxd (r : Reg8) (d : Byte) : EncodeLength.Statement (.ldRAtIxd r d) :=
  encodeLength_of 3 rfl (by decide)
theorem EncodeLength.ldAtIydN (d : Byte) (n : Byte) : EncodeLength.Statement (.ldAtIydN d n) :=
  encodeLength_of 4 rfl (by decide)
theorem EncodeLength.ldAtIydR (d : Byte) (r : Reg8) : EncodeLength.Statement (.ldAtIydR d r) :=
  encodeLength_of 3 rfl (by decide)
theorem EncodeLength.ldRAtIyd (r : Reg8) (d : Byte) : EncodeLength.Statement (.ldRAtIyd r d) :=
  encodeLength_of 3 rfl (by decide)
theorem EncodeLength.ldAtHldHl (d : Byte) : EncodeLength.Statement (.ldAtHldHl d) := encodeLength_of 3 rfl (by decide)
theorem EncodeLength.ldHlAtHld (d : Byte) : EncodeLength.Statement (.ldHlAtHld d) := encodeLength_of 3 rfl (by decide)
theorem EncodeLength.ldAtSpnHl (n : Byte) : EncodeLength.Statement (.ldAtSpnHl n) := encodeLength_of 2 rfl (by decide)
theorem EncodeLength.ldAtSpnIx (n : Byte) : EncodeLength.Statement (.ldAtSpnIx n) := encodeLength_of 3 rfl (by decide)
theorem EncodeLength.ldAtSpnIy (n : Byte) : EncodeLength.Statement (.ldAtSpnIy n) := encodeLength_of 3 rfl (by decide)
theorem EncodeLength.ldHlAtSpn (n : Byte) : EncodeLength.Statement (.ldHlAtSpn n) := encodeLength_of 2 rfl (by decide)
theorem EncodeLength.ldIxAtSpn (n : Byte) : EncodeLength.Statement (.ldIxAtSpn n) := encodeLength_of 3 rfl (by decide)
theorem EncodeLength.ldIyAtSpn (n : Byte) : EncodeLength.Statement (.ldIyAtSpn n) := encodeLength_of 3 rfl (by decide)
theorem EncodeLength.ldAtIxdHl (d : Byte) : EncodeLength.Statement (.ldAtIxdHl d) := encodeLength_of 2 rfl (by decide)
theorem EncodeLength.ldHlAtIxd (d : Byte) : EncodeLength.Statement (.ldHlAtIxd d) := encodeLength_of 2 rfl (by decide)
theorem EncodeLength.ldAtIydHl (d : Byte) : EncodeLength.Statement (.ldAtIydHl d) := encodeLength_of 3 rfl (by decide)
theorem EncodeLength.ldHlAtIyd (d : Byte) : EncodeLength.Statement (.ldHlAtIyd d) := encodeLength_of 3 rfl (by decide)
theorem EncodeLength.ldpAtHlHl : EncodeLength.Statement .ldpAtHlHl := encodeLength_of 2 rfl (by decide)
theorem EncodeLength.ldpAtIxHl : EncodeLength.Statement .ldpAtIxHl := encodeLength_of 2 rfl (by decide)
theorem EncodeLength.ldpAtIyHl : EncodeLength.Statement .ldpAtIyHl := encodeLength_of 2 rfl (by decide)
theorem EncodeLength.ldpAtMnHl (mn : Word) : EncodeLength.Statement (.ldpAtMnHl mn) :=
  encodeLength_of 4 rfl (by decide)
theorem EncodeLength.ldpAtMnIx (mn : Word) : EncodeLength.Statement (.ldpAtMnIx mn) :=
  encodeLength_of 4 rfl (by decide)
theorem EncodeLength.ldpAtMnIy (mn : Word) : EncodeLength.Statement (.ldpAtMnIy mn) :=
  encodeLength_of 4 rfl (by decide)
theorem EncodeLength.ldpHlAtHl : EncodeLength.Statement .ldpHlAtHl := encodeLength_of 2 rfl (by decide)
theorem EncodeLength.ldpHlAtIx : EncodeLength.Statement .ldpHlAtIx := encodeLength_of 2 rfl (by decide)
theorem EncodeLength.ldpHlAtIy : EncodeLength.Statement .ldpHlAtIy := encodeLength_of 2 rfl (by decide)
theorem EncodeLength.ldpHlAtMn (mn : Word) : EncodeLength.Statement (.ldpHlAtMn mn) :=
  encodeLength_of 4 rfl (by decide)
theorem EncodeLength.ldpIxAtMn (mn : Word) : EncodeLength.Statement (.ldpIxAtMn mn) :=
  encodeLength_of 4 rfl (by decide)
theorem EncodeLength.ldpIyAtMn (mn : Word) : EncodeLength.Statement (.ldpIyAtMn mn) :=
  encodeLength_of 4 rfl (by decide)
theorem EncodeLength.ldAEir : EncodeLength.Statement .ldAEir := encodeLength_of 2 rfl (by decide)
theorem EncodeLength.ldAIir : EncodeLength.Statement .ldAIir := encodeLength_of 2 rfl (by decide)
theorem EncodeLength.ldAXpc : EncodeLength.Statement .ldAXpc := encodeLength_of 2 rfl (by decide)
theorem EncodeLength.ldAltDdBc (da : RegAlt) : EncodeLength.Statement (.ldAltDdBc da) :=
  encodeLength_of 2 rfl (by decide)
theorem EncodeLength.ldAltDdDe (da : RegAlt) : EncodeLength.Statement (.ldAltDdDe da) :=
  encodeLength_of 2 rfl (by decide)
theorem EncodeLength.ldEirA : EncodeLength.Statement .ldEirA := encodeLength_of 2 rfl (by decide)
theorem EncodeLength.ldIirA : EncodeLength.Statement .ldIirA := encodeLength_of 2 rfl (by decide)
theorem EncodeLength.ldHlIx : EncodeLength.Statement .ldHlIx := encodeLength_of 2 rfl (by decide)
theorem EncodeLength.ldHlIy : EncodeLength.Statement .ldHlIy := encodeLength_of 2 rfl (by decide)
theorem EncodeLength.ldIxHl : EncodeLength.Statement .ldIxHl := encodeLength_of 2 rfl (by decide)
theorem EncodeLength.ldIyHl : EncodeLength.Statement .ldIyHl := encodeLength_of 2 rfl (by decide)
theorem EncodeLength.ldSpHl : EncodeLength.Statement .ldSpHl := encodeLength_of 1 rfl (by decide)
theorem EncodeLength.ldSpIx : EncodeLength.Statement .ldSpIx := encodeLength_of 2 rfl (by decide)
theorem EncodeLength.ldSpIy : EncodeLength.Statement .ldSpIy := encodeLength_of 2 rfl (by decide)
theorem EncodeLength.ldXpcA : EncodeLength.Statement .ldXpcA := encodeLength_of 2 rfl (by decide)
theorem EncodeLength.ldRG (r : Reg8) (g : Reg8) : EncodeLength.Statement (.ldRG r g) :=
  encodeLength_of 1 rfl (by decide)
theorem EncodeLength.exAtSpHl : EncodeLength.Statement .exAtSpHl := encodeLength_of 2 rfl (by decide)
theorem EncodeLength.exAtSpIx : EncodeLength.Statement .exAtSpIx := encodeLength_of 2 rfl (by decide)
theorem EncodeLength.exAtSpIy : EncodeLength.Statement .exAtSpIy := encodeLength_of 2 rfl (by decide)
theorem EncodeLength.exAfAltAf : EncodeLength.Statement .exAfAltAf := encodeLength_of 1 rfl (by decide)
theorem EncodeLength.exDeHl : EncodeLength.Statement .exDeHl := encodeLength_of 1 rfl (by decide)
theorem EncodeLength.exAltDeHl : EncodeLength.Statement .exAltDeHl := encodeLength_of 1 rfl (by decide)
theorem EncodeLength.exx : EncodeLength.Statement .exx := encodeLength_of 1 rfl (by decide)
theorem EncodeLength.popIp : EncodeLength.Statement .popIp := encodeLength_of 2 rfl (by decide)
theorem EncodeLength.popIx : EncodeLength.Statement .popIx := encodeLength_of 2 rfl (by decide)
theorem EncodeLength.popIy : EncodeLength.Statement .popIy := encodeLength_of 2 rfl (by decide)
theorem EncodeLength.popZz (zz : RegZz) : EncodeLength.Statement (.popZz zz) := encodeLength_of 1 rfl (by decide)
theorem EncodeLength.pushIp : EncodeLength.Statement .pushIp := encodeLength_of 2 rfl (by decide)
theorem EncodeLength.pushIx : EncodeLength.Statement .pushIx := encodeLength_of 2 rfl (by decide)
theorem EncodeLength.pushIy : EncodeLength.Statement .pushIy := encodeLength_of 2 rfl (by decide)
theorem EncodeLength.pushZz (zz : RegZz) : EncodeLength.Statement (.pushZz zz) := encodeLength_of 1 rfl (by decide)
theorem EncodeLength.altd : EncodeLength.Statement .altd := encodeLength_of 1 rfl (by decide)
theorem EncodeLength.ioi : EncodeLength.Statement .ioi := encodeLength_of 1 rfl (by decide)
theorem EncodeLength.ioe : EncodeLength.Statement .ioe := encodeLength_of 1 rfl (by decide)
theorem EncodeLength.ldd : EncodeLength.Statement .ldd := encodeLength_of 2 rfl (by decide)
theorem EncodeLength.lddr : EncodeLength.Statement .lddr := encodeLength_of 2 rfl (by decide)
theorem EncodeLength.ldi : EncodeLength.Statement .ldi := encodeLength_of 2 rfl (by decide)
theorem EncodeLength.ldir : EncodeLength.Statement .ldir := encodeLength_of 2 rfl (by decide)
theorem EncodeLength.callMn (mn : Word) : EncodeLength.Statement (.callMn mn) := encodeLength_of 3 rfl (by decide)
theorem EncodeLength.djnzE (e : Byte) : EncodeLength.Statement (.djnzE e) := encodeLength_of 2 rfl (by decide)
theorem EncodeLength.jpAtHl : EncodeLength.Statement .jpAtHl := encodeLength_of 1 rfl (by decide)
theorem EncodeLength.jpAtIx : EncodeLength.Statement .jpAtIx := encodeLength_of 2 rfl (by decide)
theorem EncodeLength.jpAtIy : EncodeLength.Statement .jpAtIy := encodeLength_of 2 rfl (by decide)
theorem EncodeLength.jpFMn (f : Cond) (mn : Word) : EncodeLength.Statement (.jpFMn f mn) :=
  encodeLength_of 3 rfl (by decide)
theorem EncodeLength.jpMn (mn : Word) : EncodeLength.Statement (.jpMn mn) := encodeLength_of 3 rfl (by decide)
theorem EncodeLength.jrCcE (cc : Cc) (e : Byte) : EncodeLength.Statement (.jrCcE cc e) :=
  encodeLength_of 2 rfl (by decide)
theorem EncodeLength.jrE (e : Byte) : EncodeLength.Statement (.jrE e) := encodeLength_of 2 rfl (by decide)
theorem EncodeLength.lcallXMn (x : Byte) (mn : Word) : EncodeLength.Statement (.lcallXMn x mn) :=
  encodeLength_of 4 rfl (by decide)
theorem EncodeLength.ljpXMn (x : Byte) (mn : Word) : EncodeLength.Statement (.ljpXMn x mn) :=
  encodeLength_of 4 rfl (by decide)
theorem EncodeLength.lret : EncodeLength.Statement .lret := encodeLength_of 2 rfl (by decide)
theorem EncodeLength.ret : EncodeLength.Statement .ret := encodeLength_of 1 rfl (by decide)
theorem EncodeLength.retF (f : Cond) : EncodeLength.Statement (.retF f) := encodeLength_of 1 rfl (by decide)
theorem EncodeLength.reti : EncodeLength.Statement .reti := encodeLength_of 2 rfl (by decide)
theorem EncodeLength.rstV (v : BitVec 3) : EncodeLength.Statement (.rstV v) := encodeLength_of 1 rfl (by decide)
theorem EncodeLength.ccf : EncodeLength.Statement .ccf := encodeLength_of 1 rfl (by decide)
theorem EncodeLength.ipset0 : EncodeLength.Statement .ipset0 := encodeLength_of 2 rfl (by decide)
theorem EncodeLength.ipset1 : EncodeLength.Statement .ipset1 := encodeLength_of 2 rfl (by decide)
theorem EncodeLength.ipset2 : EncodeLength.Statement .ipset2 := encodeLength_of 2 rfl (by decide)
theorem EncodeLength.ipset3 : EncodeLength.Statement .ipset3 := encodeLength_of 2 rfl (by decide)
theorem EncodeLength.ipres : EncodeLength.Statement .ipres := encodeLength_of 2 rfl (by decide)
theorem EncodeLength.nop : EncodeLength.Statement .nop := encodeLength_of 1 rfl (by decide)
theorem EncodeLength.scf : EncodeLength.Statement .scf := encodeLength_of 1 rfl (by decide)

end Sys2Proof.Laws
end

