-- ==== Sys2Proof/Tests/Slice0.lean ====
section
/-! SUPPORT. The model's own tests: which instructions exist, the decoding of words written out from the spec's
encodings, single steps from 95_test_vectors.md, and a concrete state for the hypotheses of every statement. -/

namespace Sys2Proof.Tests

open Sys2Proof.Machine

/-! ### WellFormed: the one check, on RST -/

/-- 30_encoding.md R116: C7, CF and F7 are LJP, LCALL and MUL, not restarts. -/
theorem test_wellFormed_refuses_restarts_0_1_6 :
    (Instr.rstV 0b000).wellFormed = false ∧ (Instr.rstV 0b001).wellFormed = false ∧
      (Instr.rstV 0b110).wellFormed = false := by decide

/-- 30_encoding.md R116: the five restarts exist. -/
theorem test_wellFormed_accepts_five_restarts :
    ([2, 3, 4, 5, 7] : List (BitVec 3)).all (fun v => (Instr.rstV v).wellFormed) = true := by decide

/-! ### Decoding: one word of every row of spec/opcode_table.json -/

/-- Each byte sequence decodes to its instruction, with bytes after it or not, and is the instruction's encoding. -/
def decodesAll (l : List (List Byte × Instr)) : Bool :=
  l.all fun x => decode x.1 == .ok x.2 x.1.length && decode (x.1 ++ [0xFF, 0x00]) == .ok x.2 x.1.length &&
    encode x.2 == x.1

/-- Group J of spec/opcode_table.json: words of its encodings. -/
theorem test_decode_group_j1 : decodesAll [
    ([0x8E], .adcAAtHl), ([0xDD, 0x8E, 0xFE], .adcAAtIxd 0xFE), ([0xFD, 0x8E, 0x05], .adcAAtIyd 0x05),
    ([0xCE, 0x80], .adcAN 0x80), ([0x88], .adcAR .b), ([0x86], .addAAtHl), ([0xDD, 0x86, 0x7F], .addAAtIxd 0x7F),
    ([0xFD, 0x86, 0x12], .addAAtIyd 0x12), ([0xC6, 0xC3], .addAN 0xC3), ([0x81], .addAR .c), ([0xA6], .andAtHl),
    ([0xDD, 0xA6, 0x69], .andAtIxd 0x69), ([0xFD, 0xA6, 0xFE], .andAtIyd 0xFE), ([0xE6, 0x05], .andN 0x05),
    ([0xA2], .andR .d), ([0xBE], .cpAtHl), ([0xDD, 0xBE, 0x80], .cpAtIxd 0x80), ([0xFD, 0xBE, 0x7F], .cpAtIyd 0x7F),
    ([0xFE, 0x12], .cpN 0x12), ([0xBB], .cpR .e), ([0xB6], .orAtHl), ([0xDD, 0xB6, 0xC3], .orAtIxd 0xC3),
    ([0xFD, 0xB6, 0x69], .orAtIyd 0x69), ([0xF6, 0xFE], .orN 0xFE)] = true := by decide

/-- Group J of spec/opcode_table.json: words of its encodings. -/
theorem test_decode_group_j2 : decodesAll [
    ([0xB4], .orR .h), ([0x9E], .sbcAAtHl), ([0xDD, 0x9E, 0x05], .sbcAAtIxd 0x05),
    ([0xFD, 0x9E, 0x80], .sbcAAtIyd 0x80), ([0xDE, 0x7F], .sbcAN 0x7F), ([0x9D], .sbcAR .l), ([0x96], .subAtHl),
    ([0xDD, 0x96, 0x12], .subAtIxd 0x12), ([0xFD, 0x96, 0xC3], .subAtIyd 0xC3), ([0xD6, 0x69], .subN 0x69),
    ([0x97], .subR .a), ([0xAE], .xorAtHl), ([0xDD, 0xAE, 0xFE], .xorAtIxd 0xFE),
    ([0xFD, 0xAE, 0x05], .xorAtIyd 0x05), ([0xEE, 0x80], .xorN 0x80), ([0xA8], .xorR .b), ([0xED, 0x44],
      .neg)] = true := by decide

/-- Group L of spec/opcode_table.json: words of its encodings. -/
theorem test_decode_group_l : decodesAll [
    ([0x35], .decAtHl), ([0xDD, 0x35, 0x7F], .decAtIxd 0x7F), ([0xFD, 0x35, 0x12], .decAtIyd 0x12),
    ([0x0D], .decR .c), ([0x34], .incAtHl), ([0xDD, 0x34, 0xC3], .incAtIxd 0xC3),
    ([0xFD, 0x34, 0x69], .incAtIyd 0x69), ([0x14], .incR .d)] = true := by decide

/-- Group M of spec/opcode_table.json: words of its encodings. -/
theorem test_decode_group_m : decodesAll [
    ([0x2F], .cpl), ([0x17], .rla), ([0x07], .rlca), ([0x1F], .rra), ([0x0F], .rrca)] = true := by decide

/-- Group K of spec/opcode_table.json: words of its encodings. -/
theorem test_decode_group_k : decodesAll [
    ([0xCB, 0x46], .bitBAtHl 0), ([0xDD, 0xCB, 0xFE, 0x4E], .bitBAtIxd 1 0xFE),
    ([0xFD, 0xCB, 0x05, 0x56], .bitBAtIyd 2 0x05), ([0xCB, 0x5B], .bitBR 3 .e), ([0xCB, 0xA6], .resBAtHl 4),
    ([0xDD, 0xCB, 0x80, 0xAE], .resBAtIxd 5 0x80), ([0xFD, 0xCB, 0x7F, 0xB6], .resBAtIyd 6 0x7F),
    ([0xCB, 0xBC], .resBR 7 .h), ([0xCB, 0xC6], .setBAtHl 0), ([0xDD, 0xCB, 0x12, 0xCE], .setBAtIxd 1 0x12),
    ([0xFD, 0xCB, 0xC3, 0xD6], .setBAtIyd 2 0xC3), ([0xCB, 0xDD], .setBR 3 .l)] = true := by decide

/-- Group N of spec/opcode_table.json: words of its encodings. -/
theorem test_decode_group_n1 : decodesAll [
    ([0xCB, 0x16], .rlAtHl), ([0xDD, 0xCB, 0x69, 0x16], .rlAtIxd 0x69), ([0xFD, 0xCB, 0xFE, 0x16], .rlAtIyd 0xFE),
    ([0xCB, 0x17], .rlR .a), ([0xCB, 0x06], .rlcAtHl), ([0xDD, 0xCB, 0x05, 0x06], .rlcAtIxd 0x05),
    ([0xFD, 0xCB, 0x80, 0x06], .rlcAtIyd 0x80), ([0xCB, 0x00], .rlcR .b), ([0xCB, 0x1E], .rrAtHl),
    ([0xDD, 0xCB, 0x7F, 0x1E], .rrAtIxd 0x7F), ([0xFD, 0xCB, 0x12, 0x1E], .rrAtIyd 0x12), ([0xCB, 0x19], .rrR .c),
    ([0xCB, 0x0E], .rrcAtHl), ([0xDD, 0xCB, 0xC3, 0x0E], .rrcAtIxd 0xC3), ([0xFD, 0xCB, 0x69, 0x0E], .rrcAtIyd 0x69),
    ([0xCB, 0x0A], .rrcR .d), ([0xCB, 0x26], .slaAtHl), ([0xDD, 0xCB, 0xFE, 0x26], .slaAtIxd 0xFE),
    ([0xFD, 0xCB, 0x05, 0x26], .slaAtIyd 0x05), ([0xCB, 0x23], .slaR .e), ([0xCB, 0x2E], .sraAtHl),
    ([0xDD, 0xCB, 0x80, 0x2E], .sraAtIxd 0x80), ([0xFD, 0xCB, 0x7F, 0x2E], .sraAtIyd 0x7F), ([0xCB, 0x2C],
      .sraR .h)] = true := by decide

/-- Group N of spec/opcode_table.json: words of its encodings. -/
theorem test_decode_group_n2 : decodesAll [
    ([0xCB, 0x3E], .srlAtHl), ([0xDD, 0xCB, 0x12, 0x3E], .srlAtIxd 0x12), ([0xFD, 0xCB, 0xC3, 0x3E], .srlAtIyd 0xC3),
    ([0xCB, 0x3D], .srlR .l)] = true := by decide

/-- Group I of spec/opcode_table.json: words of its encodings. -/
theorem test_decode_group_i1 : decodesAll [
    ([0xED, 0x4A], .adcHlSs .bc), ([0x19], .addHlSs .de), ([0xDD, 0x09], .addIxXx .bc), ([0xFD, 0x09], .addIyYy .bc),
    ([0x27, 0x69], .addSpD 0x69), ([0xDC], .andHlDe), ([0xDD, 0xDC], .andIxDe), ([0xFD, 0xDC], .andIyDe),
    ([0xEC], .orHlDe), ([0xDD, 0xEC], .orIxDe), ([0xFD, 0xEC], .orIyDe), ([0xCC], .boolHl), ([0xDD, 0xCC], .boolIx),
    ([0xFD, 0xCC], .boolIy), ([0xDD, 0x2B], .decIx), ([0xFD, 0x2B], .decIy), ([0x2B], .decSs .hl),
    ([0xDD, 0x23], .incIx), ([0xFD, 0x23], .incIy), ([0x33], .incSs .sp), ([0xF7], .mul), ([0xF3], .rlDe),
    ([0xFB], .rrDe), ([0xFC], .rrHl)] = true := by decide

/-- Group I of spec/opcode_table.json: words of its encodings. -/
theorem test_decode_group_i2 : decodesAll [
    ([0xDD, 0xFC], .rrIx), ([0xFD, 0xFC], .rrIy), ([0xED, 0x42], .sbcHlSs .bc)] = true := by decide

/-- Group A of spec/opcode_table.json: words of its encodings. -/
theorem test_decode_group_a : decodesAll [
    ([0xDD, 0x21, 0x34, 0x12], .ldIxMn 0x1234), ([0xFD, 0x21, 0xFF, 0xE0], .ldIyMn 0xE0FF),
    ([0x01, 0xEF, 0xBE], .ldDdMn .bc 0xBEEF), ([0x3E, 0xFE], .ldRN .a 0xFE)] = true := by decide

/-- Group B of spec/opcode_table.json: words of its encodings. -/
theorem test_decode_group_b : decodesAll [
    ([0x32, 0x01, 0x80], .ldAtMnA 0x8001), ([0x3A, 0x34, 0x12], .ldAAtMn 0x1234),
    ([0x22, 0xFF, 0xE0], .ldAtMnHl 0xE0FF), ([0xDD, 0x22, 0xEF, 0xBE], .ldAtMnIx 0xBEEF),
    ([0xFD, 0x22, 0x01, 0x80], .ldAtMnIy 0x8001), ([0xED, 0x53, 0x34, 0x12], .ldAtMnSs 0x1234 .de),
    ([0x2A, 0xFF, 0xE0], .ldHlAtMn 0xE0FF), ([0xDD, 0x2A, 0xEF, 0xBE], .ldIxAtMn 0xBEEF),
    ([0xFD, 0x2A, 0x01, 0x80], .ldIyAtMn 0x8001), ([0xED, 0x5B, 0x34, 0x12], .ldDdAtMn .de 0x1234)] = true :=
      by decide

/-- Group C of spec/opcode_table.json: words of its encodings. -/
theorem test_decode_group_c : decodesAll [
    ([0x02], .ldAtBcA), ([0x12], .ldAtDeA), ([0x36, 0x05], .ldAtHlN 0x05), ([0x70], .ldAtHlR .b),
    ([0x4E], .ldRAtHl .c), ([0x0A], .ldAAtBc), ([0x1A], .ldAAtDe), ([0xDD, 0x36, 0x80, 0x7F], .ldAtIxdN 0x80 0x7F),
    ([0xDD, 0x72, 0x12], .ldAtIxdR 0x12 .d), ([0xDD, 0x5E, 0xC3], .ldRAtIxd .e 0xC3),
    ([0xFD, 0x36, 0x69, 0xFE], .ldAtIydN 0x69 0xFE), ([0xFD, 0x74, 0x05], .ldAtIydR 0x05 .h),
    ([0xFD, 0x6E, 0x80], .ldRAtIyd .l 0x80)] = true := by decide

/-- Group D of spec/opcode_table.json: words of its encodings. -/
theorem test_decode_group_d : decodesAll [
    ([0xDD, 0xF4, 0x7F], .ldAtHldHl 0x7F), ([0xDD, 0xE4, 0x12], .ldHlAtHld 0x12), ([0xD4, 0xC3], .ldAtSpnHl 0xC3),
    ([0xDD, 0xD4, 0x69], .ldAtSpnIx 0x69), ([0xFD, 0xD4, 0xFE], .ldAtSpnIy 0xFE), ([0xC4, 0x05], .ldHlAtSpn 0x05),
    ([0xDD, 0xC4, 0x80], .ldIxAtSpn 0x80), ([0xFD, 0xC4, 0x7F], .ldIyAtSpn 0x7F), ([0xF4, 0x12], .ldAtIxdHl 0x12),
    ([0xE4, 0xC3], .ldHlAtIxd 0xC3), ([0xFD, 0xF4, 0x69], .ldAtIydHl 0x69), ([0xFD, 0xE4, 0xFE],
      .ldHlAtIyd 0xFE)] = true := by decide

/-- Group E of spec/opcode_table.json: words of its encodings. -/
theorem test_decode_group_e : decodesAll [
    ([0xED, 0x64], .ldpAtHlHl), ([0xDD, 0x64], .ldpAtIxHl), ([0xFD, 0x64], .ldpAtIyHl),
    ([0xED, 0x65, 0xFF, 0xE0], .ldpAtMnHl 0xE0FF), ([0xDD, 0x65, 0xEF, 0xBE], .ldpAtMnIx 0xBEEF),
    ([0xFD, 0x65, 0x01, 0x80], .ldpAtMnIy 0x8001), ([0xED, 0x6C], .ldpHlAtHl), ([0xDD, 0x6C], .ldpHlAtIx),
    ([0xFD, 0x6C], .ldpHlAtIy), ([0xED, 0x6D, 0x34, 0x12], .ldpHlAtMn 0x1234),
    ([0xDD, 0x6D, 0xFF, 0xE0], .ldpIxAtMn 0xE0FF), ([0xFD, 0x6D, 0xEF, 0xBE], .ldpIyAtMn 0xBEEF)] = true := by decide

/-- Group F of spec/opcode_table.json: words of its encodings. -/
theorem test_decode_group_f : decodesAll [
    ([0xED, 0x57], .ldAEir), ([0xED, 0x5F], .ldAIir), ([0xED, 0x77], .ldAXpc), ([0xED, 0x49], .ldAltDdBc .bc),
    ([0xED, 0x51], .ldAltDdDe .de), ([0xED, 0x47], .ldEirA), ([0xED, 0x4F], .ldIirA), ([0xDD, 0x7C], .ldHlIx),
    ([0xFD, 0x7C], .ldHlIy), ([0xDD, 0x7D], .ldIxHl), ([0xFD, 0x7D], .ldIyHl), ([0xF9], .ldSpHl),
    ([0xDD, 0xF9], .ldSpIx), ([0xFD, 0xF9], .ldSpIy), ([0xED, 0x67], .ldXpcA), ([0x7A], .ldRG .a .d)] = true :=
      by decide

/-- Group G of spec/opcode_table.json: words of its encodings. -/
theorem test_decode_group_g : decodesAll [
    ([0xED, 0x54], .exAtSpHl), ([0xDD, 0xE3], .exAtSpIx), ([0xFD, 0xE3], .exAtSpIy), ([0x08], .exAfAltAf),
    ([0xEB], .exDeHl), ([0xE3], .exAltDeHl), ([0xD9], .exx)] = true := by decide

/-- Group H of spec/opcode_table.json: words of its encodings. -/
theorem test_decode_group_h : decodesAll [
    ([0xED, 0x7E], .popIp), ([0xDD, 0xE1], .popIx), ([0xFD, 0xE1], .popIy), ([0xC1], .popZz .bc),
    ([0xED, 0x76], .pushIp), ([0xDD, 0xE5], .pushIx), ([0xFD, 0xE5], .pushIy), ([0xD5], .pushZz .de)] = true :=
      by decide

/-- Group O of spec/opcode_table.json: words of its encodings. -/
theorem test_decode_group_o : decodesAll [
    ([0x76], .altd), ([0xD3], .ioi), ([0xDB], .ioe)] = true := by decide

/-- Group P of spec/opcode_table.json: words of its encodings. -/
theorem test_decode_group_p : decodesAll [
    ([0xED, 0xA8], .ldd), ([0xED, 0xB8], .lddr), ([0xED, 0xA0], .ldi), ([0xED, 0xB0], .ldir)] = true := by decide

/-- Group Q of spec/opcode_table.json: words of its encodings. -/
theorem test_decode_group_q : decodesAll [
    ([0xCD, 0x01, 0x80], .callMn 0x8001), ([0x10, 0x05], .djnzE 0x05), ([0xE9], .jpAtHl), ([0xDD, 0xE9], .jpAtIx),
    ([0xFD, 0xE9], .jpAtIy), ([0xC2, 0x34, 0x12], .jpFMn .nz 0x1234), ([0xC3, 0xFF, 0xE0], .jpMn 0xE0FF),
    ([0x20, 0x80], .jrCcE .nz 0x80), ([0x18, 0x7F], .jrE 0x7F), ([0xCF, 0xEF, 0xBE, 0x12], .lcallXMn 0x12 0xBEEF),
    ([0xC7, 0x01, 0x80, 0xC3], .ljpXMn 0xC3 0x8001), ([0xED, 0x45], .lret), ([0xC9], .ret), ([0xC8], .retF .z),
    ([0xED, 0x4D], .reti), ([0xD7], .rstV 2)] = true := by decide

/-- Group R of spec/opcode_table.json: words of its encodings. -/
theorem test_decode_group_r : decodesAll [
    ([0x3F], .ccf), ([0xED, 0x46], .ipset0), ([0xED, 0x56], .ipset1), ([0xED, 0x4E], .ipset2),
    ([0xED, 0x5E], .ipset3), ([0xED, 0x5D], .ipres), ([0x00], .nop), ([0x37], .scf)] = true := by decide

/-- 30_encoding.md R128 and 95_test_vectors.md V115, V116, V163 to V165: bytes that no row matches. -/
theorem test_decode_undefined :
    [[0xCB, 0x30], [0xDD, 0xCB, 0x00, 0x00], [0xED, 0x00], [0xDD, 0x00], [0xED, 0x71], [0xED, 0x79],
      ([0xFD, 0xCB, 0x00, 0x36] : List Byte)].all (fun l => decode l == .undefined) = true := by decide

/-- Fewer bytes than an instruction has. -/
theorem test_decode_truncated :
    [[], [0xED], [0xDD, 0xCB, 0x00], [0xCD, 0x00], ([0xCF, 0x00, 0x00] : List Byte)].all
      (fun l => decode l == .truncated) = true := by decide

/-- The number of a row counts its bytes from the most significant one (log 34): `DD 8E d` of ADC A,(IX+d). -/
theorem test_decodeTableWord_first_byte_high : decodeTableWord 24 0xDD8E05 = some (.adcAAtIxd 0x05) := by decide

/-- The same instruction with its first byte in the least significant place (log 34). -/
theorem test_decodeTableWord_first_byte_low : decodeTableWord 24 0x058EDD = some (.adcAAtIxd 0x05) := by decide

/-! ### Single steps from 95_test_vectors.md -/

/-- The start of the vectors: bytes at 0100h, every register 0. -/
def start (bytes : List Byte) : State := { placeBytes bytes 0x0100 State.reset with pc := 0x0100, ip := 0 }

/-- A register pair of a bank set. -/
def withPair (alt : Bool) (p : RegZz) (w : Word) (s : State) : State := s.mapBank alt (·.setPair p w)

/-- A byte register of a bank set. -/
def withReg (alt : Bool) (r : Reg8) (v : Byte) (s : State) : State := s.mapBank alt (·.set r v)

/-- The main flags register set. -/
def withF (f : Byte) (s : State) : State := { s with main := { s.main with f := f } }

/-- The next step answers a state that passes a check. -/
def stepGives (s : State) (check : State → Bool) : Bool :=
  match step s with
  | .next t => check t
  | _ => false

/-- 95_test_vectors.md V2: LD BC,0x1234. -/
theorem test_v2 : stepGives
    (start [0x01, 0x34, 0x12])
    (fun t => t.main.getPair .bc == 0x1234 && t.pc == 0x0103) = true := by decide

/-- 95_test_vectors.md V3: ALTD LD HL,0xABCD. -/
theorem test_v3 : stepGives
    { (withPair false .hl 0x1111 (start [0x21, 0xCD, 0xAB])) with altd := true, hold := true }
    (fun t => t.alt.getPair .hl == 0xABCD && t.pc == 0x0103) = true := by decide

/-- 95_test_vectors.md V5: LD (0x4000),A. -/
theorem test_v5 : stepGives
    (withReg false .a 0x77 (start [0x32, 0x00, 0x40]))
    (fun t => t.byteAt 0x4000 == some 0x77 && t.pc == 0x0103) = true := by decide

/-- 95_test_vectors.md V6: IOI LD A,(0x1230). -/
theorem test_v6 : stepGives
    { (start [0x3A, 0x30, 0x12]) with ioIn := [0x99], io := some .internal, hold := true }
    (fun t => t.main.a == 0x99 && t.ioTrace.contains (.read .internal 0x0030 0x99) &&
      t.pc == 0x0103) = true := by decide

/-- 95_test_vectors.md V8: LD HL,(0x4000). -/
theorem test_v8 : stepGives
    (memWrite 0x4001 0xBE (memWrite 0x4000 0xEF (start [0x2A, 0x00, 0x40])))
    (fun t => t.main.getPair .hl == 0xBEEF && t.pc == 0x0103) = true := by decide

/-- 95_test_vectors.md V9: LD (0x4000),SP. -/
theorem test_v9 : stepGives
    { (start [0xED, 0x73, 0x00, 0x40]) with sp := 0xD123 }
    (fun t => t.byteAt 0x4000 == some 0x23 && t.byteAt 0x4001 == some 0xD1 && t.pc == 0x0104) = true := by decide

/-- 95_test_vectors.md V10: LD SP,(0x4000). -/
theorem test_v10 : stepGives
    (memWrite 0x4001 0xD0 (memWrite 0x4000 0x00 (start [0xED, 0x7B, 0x00, 0x40])))
    (fun t => t.sp == 0xD000 && t.pc == 0x0104) = true := by decide

/-- 95_test_vectors.md V12: LD A,(IX+1). -/
theorem test_v12 : stepGives
    { (memWrite 0x0000 0x24 (start [0xDD, 0x7E, 0x01])) with ix := 0xFFFF }
    (fun t => t.main.a == 0x24 && t.pc == 0x0103) = true := by decide

/-- 95_test_vectors.md V13: LD (IY+5),0x77. -/
theorem test_v13 : stepGives
    { (start [0xFD, 0x36, 0x05, 0x77]) with iy := 0x4000 }
    (fun t => t.byteAt 0x4005 == some 0x77 && t.pc == 0x0104) = true := by decide

/-- 95_test_vectors.md V14: LD HL,(HL+2). -/
theorem test_v14 : stepGives
    (memWrite 0x4005 0xEE (memWrite 0x4003 0x40 (memWrite 0x4002 0x03 (withPair false .hl 0x4000
      (start [0xDD, 0xE4, 0x02])))))
    (fun t => t.main.getPair .hl == 0x4003 && t.pc == 0x0103) = true := by decide

/-- 95_test_vectors.md V15: LD HL,(SP+0x80). -/
theorem test_v15 : stepGives
    { (memWrite 0xCF81 0x12 (memWrite 0xCF80 0x34 (start [0xC4, 0x80]))) with sp := 0xCF00 }
    (fun t => t.main.getPair .hl == 0x1234 && t.pc == 0x0102) = true := by decide

/-- 95_test_vectors.md V16: LD (SP+0x04),IX. -/
theorem test_v16 : stepGives
    { (start [0xDD, 0xD4, 0x04]) with sp := 0xCF00, ix := 0xA55A }
    (fun t => t.byteAt 0xCF04 == some 0x5A && t.byteAt 0xCF05 == some 0xA5 && t.pc == 0x0103) = true := by decide

/-- 95_test_vectors.md V17: LD (IY-1),HL. -/
theorem test_v17 : stepGives
    { (withPair false .hl 0x1234 (start [0xFD, 0xF4, 0xFF])) with iy := 0x4000 }
    (fun t => t.byteAt 0x3FFF == some 0x34 && t.byteAt 0x4000 == some 0x12 && t.pc == 0x0103) = true := by decide

/-- 95_test_vectors.md V18: LD A,(HL). -/
theorem test_v18 : stepGives
    { (physWrite 0x1E010 0x5C (withPair false .hl 0xE010 (start [0x7E]))) with xpc := 0x10 }
    (fun t => t.main.a == 0x5C && t.pc == 0x0101) = true := by decide

/-- 95_test_vectors.md V19: LDP (HL),HL. -/
theorem test_v19 : stepGives
    (withPair false .hl 0x1234 (withReg false .a 0xF5 (start [0xED, 0x64])))
    (fun t => t.physByte 0x51234 == some 0x34 && t.physByte 0x51235 == some 0x12 &&
      t.pc == 0x0102) = true := by decide

/-- 95_test_vectors.md V20: LDP HL,(0x8000). -/
theorem test_v20 : stepGives
    (physWrite 0x28001 0xAB (physWrite 0x28000 0xCD (withReg false .a 0x02 (start [0xED, 0x6D, 0x00, 0x80]))))
    (fun t => t.main.getPair .hl == 0xABCD && t.pc == 0x0104) = true := by decide

/-- 95_test_vectors.md V24: ALTD LD B,A. -/
theorem test_v24 : stepGives
    { (withReg false .b 0x34 (withReg false .a 0x12 (start [0x47]))) with altd := true, hold := true }
    (fun t => t.alt.b == 0x12 && t.pc == 0x0101) = true := by decide

/-- 95_test_vectors.md V25: LD A,XPC. -/
theorem test_v25 : stepGives
    { (start [0xED, 0x77]) with xpc := 0x7A }
    (fun t => t.main.a == 0x7A && t.pc == 0x0102) = true := by decide

/-- 95_test_vectors.md V26: LD XPC,A. -/
theorem test_v26 : stepGives
    (withReg false .a 0x7A (start [0xED, 0x67]))
    (fun t => t.xpc == 0x7A && t.pc == 0x0102) = true := by decide

/-- 95_test_vectors.md V27: LD A,IIR. -/
theorem test_v27 : stepGives
    { (withF 0x01 (start [0xED, 0x5F])) with iir := 0x80 }
    (fun t => t.main.a == 0x80 && t.main.f == 0x81 && t.pc == 0x0102) = true := by decide

/-- 95_test_vectors.md V29: LD HL',DE. -/
theorem test_v29 : stepGives
    (withPair false .de 0x1234 (start [0xED, 0x61]))
    (fun t => t.alt.getPair .hl == 0x1234 && t.pc == 0x0102) = true := by decide

/-- 95_test_vectors.md V31: LD IX,HL. -/
theorem test_v31 : stepGives
    (withPair false .hl 0x1234 (start [0xDD, 0x7D]))
    (fun t => t.ix == 0x1234 && t.pc == 0x0102) = true := by decide

/-- 95_test_vectors.md V32: LD SP,HL. -/
theorem test_v32 : stepGives
    (withPair false .hl 0xD000 (start [0xF9]))
    (fun t => t.sp == 0xD000 && t.pc == 0x0101) = true := by decide

/-- 95_test_vectors.md V33: EX AF,AF'. -/
theorem test_v33 : stepGives
    (withF 0x01 (withReg true .a 0x22 (withReg false .a 0x11 (start [0x08]))))
    (fun t => t.main.a == 0x22 && t.alt.a == 0x11 && t.main.f == 0x00 && t.alt.f == 0x01 &&
      t.pc == 0x0101) = true := by decide

/-- 95_test_vectors.md V34: EX DE,HL. -/
theorem test_v34 : stepGives
    (withPair false .hl 0x2222 (withPair false .de 0x1111 (start [0xEB])))
    (fun t => t.main.getPair .de == 0x2222 && t.main.getPair .hl == 0x1111 && t.pc == 0x0101) = true := by decide

/-- 95_test_vectors.md V35: ALTD EX DE,HL. -/
theorem test_v35 : stepGives
    { (withPair true .hl 0x3333 (withPair false .hl 0x2222 (withPair false .de 0x1111 (start [0xEB])))) with
      altd := true, hold := true }
    (fun t => t.main.getPair .de == 0x3333 && t.alt.getPair .hl == 0x1111 && t.pc == 0x0101) = true := by decide

/-- 95_test_vectors.md V37: ALTD EX DE',HL. -/
theorem test_v37 : stepGives
    { (withPair true .de 0x4444 (withPair true .hl 0x3333 (start [0xE3]))) with altd := true, hold := true }
    (fun t => t.alt.getPair .de == 0x3333 && t.alt.getPair .hl == 0x4444 && t.pc == 0x0101) = true := by decide

/-- 95_test_vectors.md V38: EXX. -/
theorem test_v38 : stepGives
    (withPair true .hl 0x3030 (withPair true .de 0x2020 (withPair true .bc 0x1010 (withPair false .hl 0x0303
      (withPair false .de 0x0202 (withPair false .bc 0x0101 (start [0xD9])))))))
    (fun t => t.main.getPair .bc == 0x1010 && t.main.getPair .de == 0x2020 && t.main.getPair .hl == 0x3030 &&
      t.alt.getPair .bc == 0x0101 && t.alt.getPair .de == 0x0202 && t.alt.getPair .hl == 0x0303 &&
      t.pc == 0x0101) = true := by decide

/-- 95_test_vectors.md V39: EX (SP),HL. -/
theorem test_v39 : stepGives
    { (memWrite 0xCF01 0xAB (memWrite 0xCF00 0xCD (withPair false .hl 0x1234 (start [0xED, 0x54])))) with
      sp := 0xCF00 }
    (fun t => t.main.getPair .hl == 0xABCD && t.byteAt 0xCF00 == some 0x34 && t.byteAt 0xCF01 == some 0x12 &&
      t.pc == 0x0102) = true := by decide

/-- 95_test_vectors.md V42: PUSH DE. -/
theorem test_v42 : stepGives
    { (withPair false .de 0x1234 (start [0xD5])) with sp := 0x0001 }
    (fun t => t.sp == 0xFFFF && t.byteAt 0x0000 == some 0x12 && t.byteAt 0xFFFF == some 0x34 &&
      t.pc == 0x0101) = true := by decide

/-- 95_test_vectors.md V43: POP AF. -/
theorem test_v43 : stepGives
    { (memWrite 0xCFFF 0x12 (memWrite 0xCFFE 0xC5 (start [0xF1]))) with sp := 0xCFFE }
    (fun t => t.main.a == 0x12 && t.sp == 0xD000 && t.main.f == 0xC5 && t.pc == 0x0101) = true := by decide

/-- 95_test_vectors.md V44: ALTD POP HL. -/
theorem test_v44 : stepGives
    { (withPair false .hl 0x9999 (memWrite 0xCFFF 0x12 (memWrite 0xCFFE 0x34 (start [0xE1])))) with
      sp := 0xCFFE, altd := true, hold := true }
    (fun t => t.alt.getPair .hl == 0x1234 && t.sp == 0xD000 && t.pc == 0x0101) = true := by decide

/-- 95_test_vectors.md V45: PUSH IP. -/
theorem test_v45 : stepGives
    { (start [0xED, 0x76]) with sp := 0xD000, ip := 0x1B }
    (fun t => t.sp == 0xCFFF && t.byteAt 0xCFFF == some 0x1B && t.pc == 0x0102) = true := by decide

/-- 95_test_vectors.md V46: POP IP. -/
theorem test_v46 : stepGives
    { (memWrite 0xCFFF 0x1B (start [0xED, 0x7E])) with sp := 0xCFFF }
    (fun t => t.sp == 0xD000 && t.ip == 0x1B && t.pc == 0x0102) = true := by decide

/-- 95_test_vectors.md V48: POP IY. -/
theorem test_v48 : stepGives
    { (memWrite 0xCFFF 0xA5 (memWrite 0xCFFE 0x5A (start [0xFD, 0xE1]))) with sp := 0xCFFE }
    (fun t => t.iy == 0xA55A && t.sp == 0xD000 && t.pc == 0x0102) = true := by decide

/-- 95_test_vectors.md V50: ADD HL,DE. -/
theorem test_v50 : stepGives
    (withF 0x40 (withPair false .de 0x0001 (withPair false .hl 0xFFFF (start [0x19]))))
    (fun t => t.main.getPair .hl == 0x0000 && t.main.f == 0x41 && t.pc == 0x0101) = true := by decide

/-- 95_test_vectors.md V51: ADC HL,BC. -/
theorem test_v51 : stepGives
    (withF 0x01 (withPair false .bc 0x0000 (withPair false .hl 0x7FFF (start [0xED, 0x4A]))))
    (fun t => t.main.getPair .hl == 0x8000 && t.main.f == 0x84 && t.pc == 0x0102) = true := by decide

/-- 95_test_vectors.md V52: SBC HL,DE. -/
theorem test_v52 : stepGives
    (withPair false .de 0x0001 (withPair false .hl 0x8000 (start [0xED, 0x52])))
    (fun t => t.main.getPair .hl == 0x7FFF && t.main.f == 0x04 && t.pc == 0x0102) = true := by decide

/-- 95_test_vectors.md V54: SBC HL,SP. -/
theorem test_v54 : stepGives
    { (withF 0x01 (withPair false .hl 0x0000 (start [0xED, 0x72]))) with sp := 0x0000 }
    (fun t => t.main.getPair .hl == 0xFFFF && t.main.f == 0x81 && t.pc == 0x0102) = true := by decide

/-- 95_test_vectors.md V55: ADD IX,IX. -/
theorem test_v55 : stepGives
    { (start [0xDD, 0x29]) with ix := 0x8000 }
    (fun t => t.ix == 0x0000 && t.main.f == 0x01 && t.pc == 0x0102) = true := by decide

/-- 95_test_vectors.md V56: ADD SP,-2. -/
theorem test_v56 : stepGives
    { (start [0x27, 0xFE]) with sp := 0x1000 }
    (fun t => t.sp == 0x0FFE && t.main.f == 0x01 && t.pc == 0x0102) = true := by decide

/-- 95_test_vectors.md V58: AND HL,DE. -/
theorem test_v58 : stepGives
    (withPair false .de 0x00FF (withPair false .hl 0x0FF0 (start [0xDC])))
    (fun t => t.main.getPair .hl == 0x00F0 && t.main.f == 0x00 && t.pc == 0x0101) = true := by decide

/-- 95_test_vectors.md V60: OR IX,DE. -/
theorem test_v60 : stepGives
    { (withF 0x01 (withPair false .de 0x0001 (start [0xDD, 0xEC]))) with ix := 0x8000 }
    (fun t => t.ix == 0x8001 && t.main.f == 0x84 && t.pc == 0x0102) = true := by decide

/-- 95_test_vectors.md V61: BOOL HL. -/
theorem test_v61 : stepGives
    (withPair false .hl 0x0100 (start [0xCC]))
    (fun t => t.main.getPair .hl == 0x0001 && t.main.f == 0x00 && t.pc == 0x0101) = true := by decide

/-- 95_test_vectors.md V63: INC BC. -/
theorem test_v63 : stepGives
    (withPair false .bc 0xFFFF (start [0x03]))
    (fun t => t.main.getPair .bc == 0x0000 && t.pc == 0x0101) = true := by decide

/-- 95_test_vectors.md V65: ALTD DEC DE. -/
theorem test_v65 : stepGives
    { (withPair false .de 0x0000 (start [0x1B])) with altd := true, hold := true }
    (fun t => t.alt.getPair .de == 0xFFFF && t.pc == 0x0101) = true := by decide

/-- 95_test_vectors.md V66: MUL. -/
theorem test_v66 : stepGives
    (withPair false .de 0x8000 (withPair false .bc 0x8000 (start [0xF7])))
    (fun t => t.main.getPair .bc == 0x0000 && t.main.getPair .hl == 0x4000 && t.pc == 0x0101) = true := by decide

/-- 95_test_vectors.md V67: MUL. -/
theorem test_v67 : stepGives
    (withPair false .de 0x8000 (withPair false .bc 0x7FFF (start [0xF7])))
    (fun t => t.main.getPair .bc == 0x8000 && t.main.getPair .hl == 0xC000 && t.pc == 0x0101) = true := by decide

/-- 95_test_vectors.md V69: RL DE. -/
theorem test_v69 : stepGives
    (withPair false .de 0x8001 (start [0xF3]))
    (fun t => t.main.getPair .de == 0x0002 && t.main.f == 0x01 && t.pc == 0x0101) = true := by decide

/-- 95_test_vectors.md V70: RR HL. -/
theorem test_v70 : stepGives
    (withF 0x01 (withPair false .hl 0x0001 (start [0xFC])))
    (fun t => t.main.getPair .hl == 0x8000 && t.main.f == 0x85 && t.pc == 0x0101) = true := by decide

/-- 95_test_vectors.md V71: RR IY. -/
theorem test_v71 : stepGives
    { (start [0xFD, 0xFC]) with iy := 0x0002 }
    (fun t => t.iy == 0x0001 && t.main.f == 0x00 && t.pc == 0x0102) = true := by decide

/-- 95_test_vectors.md V72: ADD A,B. -/
theorem test_v72 : stepGives
    (withReg false .b 0x01 (withReg false .a 0x7F (start [0x80])))
    (fun t => t.main.a == 0x80 && t.main.f == 0x84 && t.pc == 0x0101) = true := by decide

/-- 95_test_vectors.md V74: ALTD ADD A,B. -/
theorem test_v74 : stepGives
    { (withReg false .b 0x22 (withReg false .a 0x10 (start [0x80]))) with altd := true, hold := true }
    (fun t => t.alt.a == 0x32 && t.alt.f == 0x00 && t.main.f == 0x00 && t.pc == 0x0101) = true := by decide

/-- 95_test_vectors.md V75: ADC A,0xF0. -/
theorem test_v75 : stepGives
    (withF 0x01 (withReg false .a 0x0F (start [0xCE, 0xF0])))
    (fun t => t.main.a == 0x00 && t.main.f == 0x41 && t.pc == 0x0102) = true := by decide

/-- 95_test_vectors.md V76: IOI ADD A,(HL). -/
theorem test_v76 : stepGives
    { (withPair false .hl 0x1250 (withReg false .a 0x01 (start [0x86]))) with
      ioIn := [0x02], io := some .internal, hold := true }
    (fun t => t.main.a == 0x03 && t.ioTrace.contains (.read .internal 0x0050 0x02) && t.main.f == 0x00 &&
      t.pc == 0x0101) = true := by decide

/-- 95_test_vectors.md V77: SUB D. -/
theorem test_v77 : stepGives
    (withReg false .d 0x01 (withReg false .a 0x00 (start [0x92])))
    (fun t => t.main.a == 0xFF && t.main.f == 0x81 && t.pc == 0x0101) = true := by decide

/-- 95_test_vectors.md V78: SBC A,0x00. -/
theorem test_v78 : stepGives
    (withF 0x01 (withReg false .a 0x80 (start [0xDE, 0x00])))
    (fun t => t.main.a == 0x7F && t.main.f == 0x04 && t.pc == 0x0102) = true := by decide

/-- 95_test_vectors.md V79: CP B. -/
theorem test_v79 : stepGives
    (withReg false .b 0x40 (withReg false .a 0x40 (start [0xB8])))
    (fun t => t.main.f == 0x40 && t.pc == 0x0101) = true := by decide

/-- 95_test_vectors.md V81: AND 0x0F. -/
theorem test_v81 : stepGives
    (withF 0x01 (withReg false .a 0xF3 (start [0xE6, 0x0F])))
    (fun t => t.main.a == 0x03 && t.main.f == 0x00 && t.pc == 0x0102) = true := by decide

/-- 95_test_vectors.md V82: OR E. -/
theorem test_v82 : stepGives
    (withReg false .e 0x10 (withReg false .a 0x01 (start [0xB3])))
    (fun t => t.main.a == 0x11 && t.main.f == 0x04 && t.pc == 0x0101) = true := by decide

/-- 95_test_vectors.md V83: XOR A. -/
theorem test_v83 : stepGives
    (withReg false .a 0xAA (start [0xAF]))
    (fun t => t.main.a == 0x00 && t.main.f == 0x40 && t.pc == 0x0101) = true := by decide

/-- 95_test_vectors.md V84: INC A. -/
theorem test_v84 : stepGives
    (withReg false .a 0xFF (start [0x3C]))
    (fun t => t.main.a == 0x00 && t.main.f == 0x40 && t.pc == 0x0101) = true := by decide

/-- 95_test_vectors.md V86: DEC L. -/
theorem test_v86 : stepGives
    (withF 0x01 (withReg false .l 0x80 (start [0x2D])))
    (fun t => t.main.l == 0x7F && t.main.f == 0x05 && t.pc == 0x0101) = true := by decide

/-- 95_test_vectors.md V87: DEC (HL). -/
theorem test_v87 : stepGives
    (memWrite 0x4000 0x01 (withPair false .hl 0x4000 (start [0x35])))
    (fun t => t.byteAt 0x4000 == some 0x00 && t.main.f == 0x40 && t.pc == 0x0101) = true := by decide

/-- 95_test_vectors.md V88: INC (IX+16). -/
theorem test_v88 : stepGives
    { (memWrite 0x4010 0xFF (start [0xDD, 0x34, 0x10])) with ix := 0x4000 }
    (fun t => t.byteAt 0x4010 == some 0x00 && t.main.f == 0x40 && t.pc == 0x0103) = true := by decide

/-- 95_test_vectors.md V89: NEG. -/
theorem test_v89 : stepGives
    (withReg false .a 0x80 (start [0xED, 0x44]))
    (fun t => t.main.f == 0x85 && t.pc == 0x0102) = true := by decide

/-- 95_test_vectors.md V93: ALTD CP (HL). -/
theorem test_v93 : stepGives
    { (memWrite 0x4000 0x20 (withPair false .hl 0x4000 (withReg false .a 0x10 (start [0xBE])))) with
      altd := true, hold := true }
    (fun t => t.alt.f == 0x81 && t.main.f == 0x00 && t.pc == 0x0101) = true := by decide

/-- 95_test_vectors.md V94: BIT 7,A. -/
theorem test_v94 : stepGives
    (withF 0x01 (withReg false .a 0x80 (start [0xCB, 0x7F])))
    (fun t => t.main.f == 0x01 && t.pc == 0x0102) = true := by decide

/-- 95_test_vectors.md V96: BIT 3,(HL). -/
theorem test_v96 : stepGives
    (memWrite 0x4000 0x08 (withPair false .hl 0x4000 (start [0xCB, 0x5E])))
    (fun t => t.main.f == 0x00 && t.pc == 0x0102) = true := by decide

/-- 95_test_vectors.md V97: BIT 0,(IX-1). -/
theorem test_v97 : stepGives
    { (memWrite 0x3FFF 0x00 (start [0xDD, 0xCB, 0xFF, 0x46])) with ix := 0x4000 }
    (fun t => t.main.f == 0x40 && t.pc == 0x0104) = true := by decide

/-- 95_test_vectors.md V98: RES 7,A. -/
theorem test_v98 : stepGives
    (withReg false .a 0xFF (start [0xCB, 0xBF]))
    (fun t => t.main.a == 0x7F && t.pc == 0x0102) = true := by decide

/-- 95_test_vectors.md V100: IOI RES 0,(HL). -/
theorem test_v100 : stepGives
    { (withPair false .hl 0x0040 (start [0xCB, 0x86])) with ioIn := [0xFF], io := some .internal, hold := true }
    (fun t => t.ioTrace.contains (.read .internal 0x0040 0xFF) &&
      t.ioTrace.contains (.write .internal 0x0040 0xFE) && t.pc == 0x0102) = true := by decide

/-- 95_test_vectors.md V102: ALTD SET 3,B. -/
theorem test_v102 : stepGives
    { (withReg false .b 0x01 (start [0xCB, 0xD8])) with altd := true, hold := true }
    (fun t => t.alt.b == 0x09 && t.pc == 0x0102) = true := by decide

/-- 95_test_vectors.md V103: SET 7,(IY+5). -/
theorem test_v103 : stepGives
    { (memWrite 0x4005 0x00 (start [0xFD, 0xCB, 0x05, 0xFE])) with iy := 0x4000 }
    (fun t => t.byteAt 0x4005 == some 0x80 && t.pc == 0x0104) = true := by decide

/-- 95_test_vectors.md V104: RL B. -/
theorem test_v104 : stepGives
    (withReg false .b 0x80 (start [0xCB, 0x10]))
    (fun t => t.main.b == 0x00 && t.main.f == 0x41 && t.pc == 0x0102) = true := by decide

/-- 95_test_vectors.md V105: RLA. -/
theorem test_v105 : stepGives
    (withF 0x41 (withReg false .a 0x80 (start [0x17])))
    (fun t => t.main.a == 0x01 && t.main.f == 0x41 && t.pc == 0x0101) = true := by decide

/-- 95_test_vectors.md V106: RLCA. -/
theorem test_v106 : stepGives
    (withReg false .a 0x81 (start [0x07]))
    (fun t => t.main.a == 0x03 && t.main.f == 0x01 && t.pc == 0x0101) = true := by decide

/-- 95_test_vectors.md V107: RRA. -/
theorem test_v107 : stepGives
    (withReg false .a 0x01 (start [0x1F]))
    (fun t => t.main.a == 0x00 && t.main.f == 0x01 && t.pc == 0x0101) = true := by decide

/-- 95_test_vectors.md V108: RRCA. -/
theorem test_v108 : stepGives
    (withReg false .a 0x01 (start [0x0F]))
    (fun t => t.main.a == 0x80 && t.main.f == 0x01 && t.pc == 0x0101) = true := by decide

/-- 95_test_vectors.md V109: RR C. -/
theorem test_v109 : stepGives
    (withF 0x01 (withReg false .c 0x01 (start [0xCB, 0x19])))
    (fun t => t.main.c == 0x80 && t.main.f == 0x85 && t.pc == 0x0102) = true := by decide

/-- 95_test_vectors.md V110: RR (IX+1). -/
theorem test_v110 : stepGives
    { (withF 0x01 (memWrite 0x4001 0x02 (start [0xDD, 0xCB, 0x01, 0x1E]))) with ix := 0x4000 }
    (fun t => t.byteAt 0x4001 == some 0x81 && t.main.f == 0x84 && t.pc == 0x0104) = true := by decide

/-- 95_test_vectors.md V111: RRC D. -/
theorem test_v111 : stepGives
    (withReg false .d 0x01 (start [0xCB, 0x0A]))
    (fun t => t.main.d == 0x80 && t.main.f == 0x85 && t.pc == 0x0102) = true := by decide

/-- 95_test_vectors.md V112: SLA E. -/
theorem test_v112 : stepGives
    (withReg false .e 0xC0 (start [0xCB, 0x23]))
    (fun t => t.main.e == 0x80 && t.main.f == 0x85 && t.pc == 0x0102) = true := by decide

/-- 95_test_vectors.md V113: SRA H. -/
theorem test_v113 : stepGives
    (withReg false .h 0x81 (start [0xCB, 0x2C]))
    (fun t => t.main.h == 0xC0 && t.main.f == 0x85 && t.pc == 0x0102) = true := by decide

/-- 95_test_vectors.md V114: SRL A. -/
theorem test_v114 : stepGives
    (withReg false .a 0x01 (start [0xCB, 0x3F]))
    (fun t => t.main.a == 0x00 && t.main.f == 0x41 && t.pc == 0x0102) = true := by decide

/-- 95_test_vectors.md V126: LDI. -/
theorem test_v126 : stepGives
    (memWrite 0x4000 0xAA (withPair false .bc 0x0001 (withPair false .de 0x5000 (withPair false .hl 0x4000
      (start [0xED, 0xA0])))))
    (fun t => t.main.getPair .bc == 0x0000 && t.main.getPair .de == 0x5001 && t.main.getPair .hl == 0x4001 &&
      t.byteAt 0x5000 == some 0xAA && t.main.f == 0x00 && t.pc == 0x0102) = true := by decide

/-- 95_test_vectors.md V127: LDIR. -/
theorem test_v127 : stepGives
    (memWrite 0x4002 0x03 (memWrite 0x4001 0x02 (memWrite 0x4000 0x01 (withPair false .bc 0x0003
      (withPair false .de 0x5000 (withPair false .hl 0x4000 (start [0xED, 0xB0])))))))
    (fun t => t.main.getPair .bc == 0x0000 && t.main.getPair .de == 0x5003 && t.main.getPair .hl == 0x4003 &&
      t.byteAt 0x5000 == some 0x01 && t.byteAt 0x5001 == some 0x02 && t.byteAt 0x5002 == some 0x03 &&
      t.main.f == 0x00 && t.pc == 0x0102) = true := by decide

/-- 95_test_vectors.md V128: LDIR. -/
theorem test_v128 : stepGives
    (memWrite 0x4000 0x5A (withPair false .bc 0x0003 (withPair false .de 0x4001 (withPair false .hl 0x4000
      (start [0xED, 0xB0])))))
    (fun t => t.main.getPair .bc == 0x0000 && t.main.getPair .de == 0x4004 && t.main.getPair .hl == 0x4003 &&
      t.byteAt 0x4001 == some 0x5A && t.byteAt 0x4002 == some 0x5A && t.byteAt 0x4003 == some 0x5A &&
      t.main.f == 0x00 && t.pc == 0x0102) = true := by decide

/-- 95_test_vectors.md V129: LDDR. -/
theorem test_v129 : stepGives
    (memWrite 0x4001 0x02 (memWrite 0x4002 0x03 (withPair false .bc 0x0002 (withPair false .de 0x5002
      (withPair false .hl 0x4002 (start [0xED, 0xB8]))))))
    (fun t => t.main.getPair .bc == 0x0000 && t.main.getPair .de == 0x5000 && t.main.getPair .hl == 0x4000 &&
      t.byteAt 0x5002 == some 0x03 && t.byteAt 0x5001 == some 0x02 && t.main.f == 0x00 &&
      t.pc == 0x0102) = true := by decide

/-- 95_test_vectors.md V131: IOE LDI. -/
theorem test_v131 : stepGives
    { (memWrite 0x4000 0xAA (withPair false .bc 0x0002 (withPair false .de 0x0123 (withPair false .hl 0x4000 (start [0xED, 0xA0]))))) with
      io := some .external, hold := true }
    (fun t => t.main.getPair .bc == 0x0001 && t.main.getPair .de == 0x0124 && t.main.getPair .hl == 0x4001 &&
      t.ioTrace.contains (.write .external 0x0123 0xAA) && t.main.f == 0x04 && t.pc == 0x0102) = true := by decide

/-- 95_test_vectors.md V132: JP 0x1234. -/
theorem test_v132 : stepGives
    (start [0xC3, 0x34, 0x12])
    (fun t => t.pc == 0x1234) = true := by decide

/-- 95_test_vectors.md V135: JP LZ,0x2000. -/
theorem test_v135 : stepGives
    (withF 0x04 (start [0xE2, 0x00, 0x20]))
    (fun t => t.pc == 0x0103) = true := by decide

/-- 95_test_vectors.md V136: JP M,0x2000. -/
theorem test_v136 : stepGives
    (withF 0x80 (start [0xFA, 0x00, 0x20]))
    (fun t => t.pc == 0x2000) = true := by decide

/-- 95_test_vectors.md V137: JP (HL). -/
theorem test_v137 : stepGives
    (withPair false .hl 0xBEEF (start [0xE9]))
    (fun t => t.pc == 0xBEEF) = true := by decide

/-- 95_test_vectors.md V139: JR $+0. -/
theorem test_v139 : stepGives
    (start [0x18, 0xFE])
    (fun t => t.pc == 0x0100) = true := by decide

/-- 95_test_vectors.md V141: JR C,$+18. -/
theorem test_v141 : stepGives
    (withF 0x01 (start [0x38, 0x10]))
    (fun t => t.pc == 0x0112) = true := by decide

/-- 95_test_vectors.md V142: JR NC,$+18. -/
theorem test_v142 : stepGives
    (withF 0x01 (start [0x30, 0x10]))
    (fun t => t.pc == 0x0102) = true := by decide

/-- 95_test_vectors.md V144: DJNZ $+7. -/
theorem test_v144 : stepGives
    (withReg false .b 0x00 (start [0x10, 0x05]))
    (fun t => t.main.b == 0xFF && t.pc == 0x0107) = true := by decide

/-- 95_test_vectors.md V145: ALTD DJNZ $+7. -/
theorem test_v145 : stepGives
    { (withReg false .b 0x02 (start [0x10, 0x05])) with altd := true, hold := true }
    (fun t => t.alt.b == 0x01 && t.pc == 0x0107) = true := by decide

/-- 95_test_vectors.md V146: CALL 0x2000. -/
theorem test_v146 : stepGives
    { (start [0xCD, 0x00, 0x20]) with sp := 0xD000 }
    (fun t => t.sp == 0xCFFE && t.byteAt 0xCFFF == some 0x01 && t.byteAt 0xCFFE == some 0x03 &&
      t.pc == 0x2000) = true := by decide

/-- 95_test_vectors.md V147: RET. -/
theorem test_v147 : stepGives
    { (memWrite 0xCFFF 0x01 (memWrite 0xCFFE 0x03 (start [0xC9]))) with sp := 0xCFFE }
    (fun t => t.sp == 0xD000 && t.pc == 0x0103) = true := by decide

/-- 95_test_vectors.md V148: RET C. -/
theorem test_v148 : stepGives
    { (memWrite 0xCFFF 0x01 (memWrite 0xCFFE 0x03 (start [0xD8]))) with sp := 0xCFFE }
    (fun t => t.pc == 0x0101) = true := by decide

/-- 95_test_vectors.md V150: LCALL 0x10,0xE000. -/
theorem test_v150 : stepGives
    { (start [0xCF, 0x00, 0xE0, 0x10]) with sp := 0xD000, xpc := 0x05 }
    (fun t => t.sp == 0xCFFD && t.xpc == 0x10 && t.byteAt 0xCFFF == some 0x05 && t.byteAt 0xCFFE == some 0x01 &&
      t.byteAt 0xCFFD == some 0x04 && t.pc == 0xE000) = true := by decide

/-- 95_test_vectors.md V151: LJP 0x10,0xE234. -/
theorem test_v151 : stepGives
    { (start [0xC7, 0x34, 0xE2, 0x10]) with xpc := 0x05 }
    (fun t => t.xpc == 0x10 && t.pc == 0xE234) = true := by decide

/-- 95_test_vectors.md V152: LRET. -/
theorem test_v152 : stepGives
    { (memWrite 0xCFFF 0x05 (memWrite 0xCFFE 0x01 (memWrite 0xCFFD 0x04 (start [0xED, 0x45])))) with
      sp := 0xCFFD, xpc := 0x10 }
    (fun t => t.sp == 0xD000 && t.xpc == 0x05 && t.pc == 0x0104) = true := by decide

/-- 95_test_vectors.md V153: RETI. -/
theorem test_v153 : stepGives
    { (memWrite 0xCFFF 0x01 (memWrite 0xCFFE 0x23 (memWrite 0xCFFD 0x00 (start [0xED, 0x4D])))) with
      sp := 0xCFFD, ip := 0x01 }
    (fun t => t.sp == 0xD000 && t.ip == 0x00 && t.pc == 0x0123) = true := by decide

/-- 95_test_vectors.md V154: RST 70h. -/
theorem test_v154 : stepGives
    { (start [0xFF]) with sp := 0xD000, iir := 0x20 }
    (fun t => t.sp == 0xCFFE && t.byteAt 0xCFFF == some 0x01 && t.byteAt 0xCFFE == some 0x01 &&
      t.pc == 0x2070) = true := by decide

/-- 95_test_vectors.md V157: IPSET 1. -/
theorem test_v157 : stepGives
    { (start [0xED, 0x56]) with ip := 0xFF }
    (fun t => t.ip == 0xFD && t.pc == 0x0102) = true := by decide

/-- 95_test_vectors.md V158: IPRES. -/
theorem test_v158 : stepGives
    { (start [0xED, 0x5D]) with ip := 0x6F }
    (fun t => t.ip == 0xDB && t.pc == 0x0102) = true := by decide

/-- 95_test_vectors.md V159: CCF. -/
theorem test_v159 : stepGives
    (withF 0x01 (start [0x3F]))
    (fun t => t.main.f == 0x00 && t.pc == 0x0101) = true := by decide

/-- 95_test_vectors.md V161: ALTD SCF. -/
theorem test_v161 : stepGives
    { (start [0x37]) with altd := true, hold := true }
    (fun t => t.alt.f == 0x01 && t.main.f == 0x00 && t.pc == 0x0101) = true := by decide

/-- 95_test_vectors.md V162: NOP. -/
theorem test_v162 : stepGives
    (start [0x00])
    (fun t => t.pc == 0x0101) = true := by decide

/-- 95_test_vectors.md V166: a request of priority 1 is taken at priority 0. -/
theorem test_v166 : stepGives
    { start [] with pc := 0x0123, sp := 0xD000, iir := 0x20,
                    irq := [some { prio := .p1, external := false, off := 0x40 }] }
    (fun t => t.byteAt 0xCFFF == some 0x01 && t.byteAt 0xCFFE == some 0x23 && t.sp == 0xCFFE && t.ip == 0x01 &&
      t.pc == 0x2040 && t.irq == []) = true := by decide

/-- 95_test_vectors.md V168: priority 2 is not taken at priority 2, and NOP runs. -/
theorem test_v168 : stepGives
    { start [0x00] with ip := 0x02, irq := [some { prio := .p2, external := false, off := 0x40 }] }
    (fun t => t.ip == 0x02 && t.pc == 0x0101) = true := by decide

/-- 70_reset_and_hazards.md R545: after an IOI-marked instruction the read of ADD A,(HL) goes to I/O (log 18). -/
theorem test_io_bug : stepGives
    { withPair false .hl 0x4000 (start [0x86]) with iobug := some .internal, ioIn := [0x22] }
    (fun t => t.main.a == 0x22 && t.iobug == none) = true := by decide

/-- 20_memory.md R80: a read of a byte without a value faults (log 1). -/
theorem test_unwritten_memory_faults :
    step (withPair false .hl 0x4000 (start [0x7E])) = .fault (.unwrittenMemory 0x04000) := rfl

/-- 45_prefix_block.md R435: a second I/O latch is refused (log 17). -/
theorem test_second_io_latch_refused :
    step { start [0xDB] with io := some .internal, hold := true } = .refused .secondIoPrefix := rfl

/-- 95_test_vectors.md V4: ALTD LD SP,0xD000 is refused (log 15). -/
theorem test_v4 : step { start [0x31, 0x00, 0xD0] with altd := true, hold := true } = .refused .altdSp := rfl

/-- 42_arith16.md R268, R271: ALTD INC SP and ALTD DEC SP are refused, ALTD INC HL is not (log 15). -/
theorem test_altd_inc_dec_sp_refused :
    step { start [0x33] with altd := true, hold := true } = .refused .altdSp ∧
      step { start [0x3B] with altd := true, hold := true } = .refused .altdSp ∧
        stepGives { start [0x23] with altd := true, hold := true } (fun t => t.alt.getPair .hl == 1) = true :=
  ⟨rfl, rfl, by decide⟩

/-- 20_memory.md R78, R87: an I/O write takes the oracle's answer about the MMU state (log 7). -/
theorem test_io_write_changes_mmu : stepGives
    { start [0x32, 0x13, 0x00] with io := some .internal, hold := true, mmuIn := [some { token := 5 }] }
    (fun t => t.mmu == { token := 5 } && t.mmuIn == [] && t.ioTrace == [.write .internal 0x13 0]) = true := by decide

/-- 20_memory.md R80: an instruction whose second byte has no value is not run (log 37). -/
theorem test_truncated_fetch_faults : step (start [0x3E]) = .fault (.unwrittenMemory 0x00101) := rfl

/-- 30_encoding.md R128: undefined bytes are refused (log 19). -/
theorem test_undefined_refused : step (start [0xED, 0x00]) = .refused (.undefinedOpcode [0xED, 0x00]) := rfl

/-- A word placed for the host is fetched and run right after reset (log 35). -/
theorem test_withFetchWord : stepGives (State.reset.withFetchWord 16 0x3E5A) (fun t => t.main.a == 0x5A) = true := by
  decide

/-! ### A concrete state and operands for the hypotheses of every statement -/

open Sys2Proof.Claims

/-- Memory with one value at every address from `a` on, `n` of them. -/
def constantMemory (v : Byte) : Nat → Nat → Memory
  | _, 0 => []
  | a, n + 1 => (a, v) :: constantMemory v (a + 1) n

theorem memGet_constantMemory (v : Byte) : ∀ (n a p : Nat), a ≤ p → p < a + n → memGet p
  (constantMemory v a n) = some v
  | 0, _, _, h, h' => by omega
  | n + 1, a, p, h, h' => by
    by_cases e : p = a
    · simp [constantMemory, memGet, e]
    · simpa [constantMemory, memGet, e] using memGet_constantMemory v n (a + 1) p (by omega) (by omega)

/-- Every logical address readable: XPC is 0, so that each lies at itself. -/
def allReadable : State := { State.reset with mem := constantMemory 0x5A 0 65536 }

theorem allReadable_byteAt (a : Word) : allReadable.byteAt a = some 0x5A := by
  refine memGet_constantMemory 0x5A 65536 0 _ (Nat.zero_le _) ?_
  have h : (allReadable.phys a).toNat < 65536 := by
    simp only [State.phys, Machine.translate]
    split
    · simp [allReadable, State.reset]; omega
    · simp [allReadable, State.reset]; omega
  omega

/-- Twelve bytes 01 to 0C from 4000h on, HL, IX, IY, DE, SP pointing there, BC = 1, and NOP at PC. -/
def work : State :=
  { withPair false .bc 1 (withPair false .hl 0x4000 (withPair false .de 0x4008
      (placeBytes [1, 2, 3, 4, 5, 6, 7, 8, 9, 10, 11, 12] 0x4000 (start [0x00])))) with
    ix := 0x4002, iy := 0x4004, sp := 0x4006 }

/-- `work` after IOI, with one supplied answer. -/
def workIo : State := { work with io := some .internal, hold := true, ioIn := [0x99] }

/-- `work` after ALTD. -/
def workAltd : State := { work with altd := true, hold := true }

/-- `work` with a remembered I/O selection. -/
def workBug : State := { work with iobug := some .external }

theorem witness_DecodeEncode :
    [Instr.rstV 2, .rstV 7, .nop, .ldAtIxdN 0x80 0xFF].all Instr.wellFormed = true := by decide

theorem witness_DecodeOnlyEncodings : decode [0xCF, 0x00, 0xE0, 0x10] = .ok (.lcallXMn 0x10 0xE000) 4 := by decide

theorem witness_UndefinedExactly_clauses :
    NotDefined [0xCB, 0x30] ∧ NotDefined [0xCB, 0x37] ∧ ¬NotDefined [0xCB, 0x2F] ∧ ¬NotDefined [0xCB, 0x38] ∧
      NotDefined [0xED, 0x00] ∧ ¬NotDefined [0xED, 0xB8] ∧ NotDefined [0xDD, 0x00] ∧ ¬NotDefined [0xFD, 0xFC] ∧
      NotDefined [0xFD, 0xCB, 0x00, 0x36] ∧ ¬NotDefined [0xDD, 0xCB, 0x00, 0x3E] ∧ ¬NotDefined [0xDD, 0xCB, 0x00] ∧
      ¬NotDefined [0xED] := by
  simp [NotDefined, edBytes, indexBytes, indexBitBytes]

theorem witness_UndefinedExactly_step :
    interruptNow (start [0xED, 0x00]) = none ∧ NotDefined (fetchBytes (start [0xED, 0x00])) :=
  ⟨by decide, by
    rw [show fetchBytes (start [0xED, 0x00]) = [0xED, 0x00] by decide]
    simp [NotDefined, edBytes]⟩

/-- With hold clear the oracle's first answer is used up, with hold set it is kept. -/
theorem witness_StepRunsDecoded : ∀ hold,
    let s := { start [0x01, 0x34, 0x12] with hold := hold, irq := [none] }
    (Instr.ldDdMn .bc 0x1234).wellFormed = true ∧ interruptNow s = none ∧ StandsAtPc (.ldDdMn .bc 0x1234) s := by
  unfold StandsAtPc
  decide

/-- The clause on a byte without a value, at the first byte and at the last one. -/
theorem witness_StepRunsDecoded_fetch :
    ∀ x ∈ [(([] : List Byte), 0), ([0xDD, 0xCB, 0x05], 3)],
      (Instr.rlAtIxd 5).wellFormed = true ∧ interruptNow (start x.1) = none ∧ x.2 < (encode (.rlAtIxd 5)).length ∧
        (∀ j (h : j < (encode (.rlAtIxd 5)).length), j < x.2 →
          (start x.1).byteAt ((start x.1).pc + BitVec.ofNat 16 j) = some (encode (.rlAtIxd 5))[j]) ∧
        (start x.1).byteAt ((start x.1).pc + BitVec.ofNat 16 x.2) = none := by decide

/-- The least priority difference, and the request for the external table at the highest priority. -/
theorem witness_StepTakesInterrupt :
    ∀ x ∈ [((0x00 : Byte), Priority.p1, false), (0xFE, .p3, true)],
      let s := { start [] with ip := x.1, irq := [some { prio := x.2.1, external := x.2.2, off := 0x40 }] }
      s.hold = false ∧ s.irq = some { prio := x.2.1, external := x.2.2, off := 0x40 } :: [] ∧
        s.ip.toNat % 4 < priorityNumber x.2.1 := by decide

theorem witness_InterruptAfterInstruction :
    (∃ t, step (start [0x00]) = .next t) ∧ Instr.nop.wellFormed = true ∧ interruptNow (start [0x00]) = none ∧
      StandsAtPc .nop (start [0x00]) :=
  ⟨⟨_, rfl⟩, by decide, by decide, by unfold StandsAtPc; decide⟩

/-- The boundary of each priority: the equal one is refused, the next higher one taken; and a privileged form. -/
theorem witness_InterruptAfterInstruction_clauses :
    (∀ x ∈ [((0 : Byte), Priority.p1, true), (1, .p1, false), (1, .p2, true), (2, .p2, false), (2, .p3, true), (3,
      .p3, false)],
      interruptNow { start [] with ip := x.1, irq := [some { prio := x.2.1, external := false, off := 0 }] } =
        if x.2.2 then some { prio := x.2.1, external := false, off := 0 } else none) ∧
      privileged .ipset0 = true ∧ setsLatch .altd = true := by decide

theorem witness_InvKept : Inv workIo ∧ ∃ t, step workIo = .next t :=
  ⟨⟨by decide, by unfold LatchesAgree; decide⟩, ⟨_, rfl⟩⟩

theorem witness_ControlRegisterWriters :
    (∃ t, exec .nop work = .next t) ∧ writesIp .nop = false ∧ writesXpc .nop = false ∧ Instr.nop ≠ .ldIirA ∧
      Instr.nop ≠ .ldEirA ∧ storesBytes .nop = false ∧ ioMarked .pushIp = false := ⟨⟨_, rfl⟩, by decide⟩

theorem witness_PcWriters : (∃ t, exec .nop work = .next t) ∧ writesPc .nop = false := ⟨⟨_, rfl⟩, by decide⟩

theorem witness_FlagWriters :
    ((∃ t, exec .cpl work = .next t) ∧ writesFlags .cpl = false) ∧ ∃ t, exec (.popZz .bc) work = .next t :=
  ⟨⟨⟨_, rfl⟩, by decide⟩, ⟨_, rfl⟩⟩

theorem witness_AlternateBankWriters :
    (∃ t, exec .exDeHl work = .next t) ∧ work.altd = false ∧ Instr.exDeHl ≠ .exAfAltAf ∧ Instr.exDeHl ≠ .exx ∧
      Instr.exDeHl ≠ .exAltDeHl ∧ ∀ da, Instr.exDeHl ≠ .ldAltDdBc da ∧ Instr.exDeHl ≠ .ldAltDdDe da :=
  ⟨⟨_, rfl⟩, by decide, by decide, by decide, by decide, fun da => by simp⟩

theorem witness_MainBankKeptUnderAltd :
    (∃ t, exec (.incR .a) workAltd = .next t) ∧ workAltd.altd = true ∧ altdMarked (.incR .a) = true ∧
      Instr.incR .a ≠ .exDeHl := ⟨⟨_, rfl⟩, by decide⟩

/-- Each case of the iobug latch: an I/O-marked instruction, ALTD, and any other. -/
theorem witness_LatchLife :
    (∃ t, exec (.ldAtHlN 5) workIo = .next t) ∧ (∃ t, exec .altd workBug = .next t) ∧
      (∃ t, exec .ipset3 workBug = .next t) ∧ ioMarked (.ldAtHlN 5) = true ∧ setsLatch .ipset3 = false := by
  exact ⟨⟨_, rfl⟩, ⟨_, rfl⟩, ⟨_, rfl⟩, by decide⟩

/-- An unmarked instruction under the io latch, and a marked one of the twelve forms without any selection. -/
theorem witness_IoOnlyMarked :
    ((∃ t, exec (.ldHlAtSpn 0) workIo = .next t) ∧ ioMarked (.ldHlAtSpn 0) = false) ∧
      ((∃ t, exec (.ldRAtHl .b) work = .next t) ∧ ioMarked (.ldRAtHl .b) = true ∧ work.io = none ∧
        oneByteHl (.ldRAtHl .b) = true ∧ work.iobug = none) := ⟨⟨⟨_, rfl⟩, by decide⟩, ⟨_, rfl⟩, by decide⟩

theorem witness_IoLeavesMemory :
    (∃ t, exec .ldi workIo = .next t) ∧ ioMarked .ldi = true ∧ workIo.io ≠ none := ⟨⟨_, rfl⟩, by decide⟩

theorem witness_MemoryWriters : (∃ t, exec .ret work = .next t) ∧ storesBytes .ret = false := ⟨⟨_, rfl⟩, by decide⟩

theorem witness_ExecStops :
    exec (.ldRAtHl .b) (start []) = .fault (.unwrittenMemory 0) ∧
      exec .ioe workIo = .refused .secondIoPrefix ∧ exec (.incSs .sp) workAltd = .refused .altdSp := ⟨rfl, rfl, rfl⟩

theorem witness_UnmarkedIgnoresLatch :
    setsLatch .nop = false ∧ altdMarked .nop = false ∧ ioMarked .nop = false := by decide

theorem witness_BugOnlyTwelve :
    (Instr.nop ≠ .altd ∧ oneByteHl .nop = false) ∧ (oneByteHl .addAAtHl = true ∧ workIo.io ≠ none) ∧
      ∃ t, exec .addAAtHl { work with io := none, iobug := some .internal } = .next t :=
  ⟨by decide, by decide, ⟨_, rfl⟩⟩

/-- The byte operand of each place: in memory, from the io latch's space, and from the remembered space. -/
theorem witness_SourceByte :
    SourceByte (space true work) (Place.addr work .hl) 1 work ∧
      SourceByte (space false work) (Place.addr work (.ixd 0xFF)) 2 work ∧
      SourceByte (space false work) (Place.addr work (.iyd 0x07)) 12 work ∧
      SourceByte (space false workIo) (Place.addr workIo .hl) 0x99 workIo ∧
      SourceByte (space true workBug) (Place.addr workBug .hl) (Config.ioDraw 0 .external 0x4000) workBug :=
  ⟨rfl, rfl, rfl, rfl, rfl⟩

/-- The hypotheses of AccumulatorMemory. -/
theorem witness_AccumulatorMemory : SourceByte (space (Place.isHl .hl) work) (Place.addr work .hl) 1 work := rfl

/-- The inner hypotheses of IncDecAndRotatesOfA, in memory and with the remembered selection. -/
theorem witness_IncDecAndRotatesOfA :
    SourceByte (space (Place.isHl .hl) work) (Place.addr work .hl) 1 work ∧
      SourceByte (space (Place.isHl .hl) workBug) (Place.addr workBug .hl) (Config.ioDraw 0 .external 0x4000) workBug :=
  ⟨rfl, rfl⟩

/-- WordIncDecMultiply: SP without ALTD, another pair under ALTD, and ALTD. -/
theorem witness_WordIncDecMultiply :
    (RegSs.sp = .sp → work.altd = false) ∧ (RegSs.hl = .sp → workAltd.altd = false) ∧ workAltd.altd = true := by decide

/-- The inner hypotheses of ShiftMemory. -/
theorem witness_ShiftMemory : SourceByte (space false work) (Place.addr work (.iyd 0x07)) 12 work := rfl

/-- The inner hypotheses of BitTest. -/
theorem witness_BitTest : SourceByte (space false work) (Place.addr work .hl) 1 work := rfl

/-- The inner hypotheses of SetReset. -/
theorem witness_SetReset : SourceByte (space false workIo) (Place.addr workIo .hl) 0x99 workIo := rfl

/-- LD r,r changes nothing only without ALTD; LD dd,mn with SP without ALTD and with another pair under it. -/
theorem witness_ImmediatesAndMoves :
    work.altd = false ∧ (RegSs.sp = .sp → work.altd = false) ∧ (RegSs.bc = .sp → workAltd.altd = false) ∧
      workAltd.altd = true := by decide

/-- The inner hypotheses of ByteLoads. -/
theorem witness_ByteLoads :
    SourceByte (space true work) (Place.addr work .hl) 1 work ∧ SourceByte work.io 0x400B 12 work := ⟨rfl, rfl⟩

/-- The inner hypotheses of WordLoads: in memory and from I/O, with one supplied answer and one free value. -/
theorem witness_WordLoads :
    SourceWord work.io 0x400A 0x0C0B work ∧
      SourceWord workIo.io 0x400A (Config.ioDraw 0 .internal 0x000B ++ 0x99#8) workIo ∧
      (RegSs.sp = .sp → work.altd = false) ∧ workAltd.altd = true :=
  ⟨⟨0x0B, 0x0C, rfl, rfl, rfl⟩, rfl, by decide, rfl⟩

/-- The bytes of StackFrame at the least and the greatest offset: from 4006h, and from 3FF8h with n = FFh. -/
theorem witness_StackFrame :
    (work.physByte (work.phys (BitVec.ofNat 16 (work.sp.toNat + 0))) = some 7 ∧
      work.physByte (work.phys (BitVec.ofNat 16 (work.sp.toNat + 0 + 1))) = some 8) ∧
      let s := { work with sp := 0x3F0A }
      s.physByte (s.phys (BitVec.ofNat 16 (s.sp.toNat + 255))) = some 10 ∧
        s.physByte (s.phys (BitVec.ofNat 16 (s.sp.toNat + 255 + 1))) = some 11 := ⟨⟨rfl, rfl⟩, rfl, rfl⟩

/-- The bytes of PhysicalAccess, and at the carry into bits 19:16. -/
theorem witness_PhysicalAccess :
    (work.physByte (ldpRef work 0x4000) = some 1 ∧ work.physByte (ldpRef work 0x4000 + 1) = some 2) ∧
      let s := physWrite 0x10000 4 (physWrite 0x0FFFF 3 work)
      s.physByte (ldpRef s 0xFFFF) = some 3 ∧ s.physByte (ldpRef s 0xFFFF + 1) = some 4 := ⟨⟨rfl, rfl⟩, rfl, rfl⟩

/-- The bytes that ExchangeTopOfStack, PushPop and ConditionCodes take as readable. -/
theorem witness_stack_bytes :
    work.byteAt work.sp = some 7 ∧ work.byteAt (work.sp + 1) = some 8 ∧ work.byteAt (work.sp + 2) = some 9 :=
  ⟨rfl, rfl, rfl⟩

/-- The hypotheses of ExchangeTopOfStack. -/
theorem witness_ExchangeTopOfStack : work.byteAt work.sp = some 7 ∧ work.byteAt (work.sp + 1) = some 8 := ⟨rfl, rfl⟩

/-- The hypotheses of PushPop, for a word and for a byte. -/
theorem witness_PushPop : work.byteAt work.sp = some 7 ∧ work.byteAt (work.sp + 1) = some 8 := ⟨rfl, rfl⟩

theorem witness_PushThenPop :
    work.phys (work.sp - 1) ≠ work.phys (work.sp - 2) ∧ (.pushIx, .popIx, .ix) ∈ stackWords ∧
      (.pushZz .af, .popZz .af, .pair .af) ∈ stackWords := by decide

/-- The io latch clear and set. -/
theorem witness_LatchSetters : work.io = none ∧ workIo.io ≠ none := by decide

theorem witness_BlockMoveOne : work.byteAt (wordIn false work (.pair .hl)) = some 1 := rfl

/-- BC = 1: one readable byte is enough, with the io latch or without. -/
theorem witness_BlockMoveAll_one : ∀ up, SourceBytes up work (fun _ => 1) ∧ SourceBytes up workIo (fun _ => 1) := by
  have h : moveCount work = 1 ∧ moveCount workIo = 1 := by decide
  intro up
  constructor
  all_goals
    intro k hk
    simp only [h] at hk
    obtain rfl : k = 0 := by omega
    cases up <;> decide

/-- BC = 2 under the io latch, from FFFFh on: the second byte, at 0, is read under the MMU state that the first I/O
write leaves, where it lies at itself; under the one before nothing says where it lies. -/
theorem witness_BlockMoveAll_mmu :
    let s := withPair false .bc 2 (withPair false .hl 0xFFFF
      { physWrite 0 2 (physWrite 0xFFFF 1 workIo) with mmu := { token := 7 }, mmuIn := [some { token := 0 }] })
    SourceBytes true s (fun k => if k = 0 then 1 else 2) := by
  intro s k hk
  have h : moveCount s = 2 := by decide
  rw [h] at hk
  obtain rfl | rfl : k = 0 ∨ k = 1 := by omega
  all_goals decide

/-- BC = 0: all 65536 bytes of the logical space are readable. -/
theorem witness_BlockMoveAll_zero :
    ∀ up, moveCount allReadable = 65536 ∧ SourceBytes up allReadable (fun _ => 0x5A) :=
  fun _ => ⟨rfl, fun _ _ => allReadable_byteAt _⟩

/-- Each condition holds of one flags byte and fails of another. -/
theorem witness_JumpTargets :
    ∀ x ∈ [(Cond.nz, (0x00 : Byte), (0x40 : Byte)), (.z, 0x40, 0x00), (.nc, 0x00, 0x01), (.c, 0x01, 0x00),
      (.lz, 0x00, 0x04), (.lo, 0x04, 0x00), (.p, 0x00, 0x80), (.m, 0x80, 0x00)],
      condRef x.2.1 x.1 ∧ ¬condRef x.2.2 x.1 := by
  simp [condRef]
  decide

/-- Both outcomes of the first and the last code, the last code of JR, and the readable stack bytes. -/
theorem witness_ConditionCodes :
    codeTrue 0 0x00 = true ∧ codeTrue 0 0x40 = false ∧ codeTrue 7 0x80 = true ∧ codeTrue 7 0x00 = false ∧
      (3#3).toNat < 4 ∧ work.byteAt work.sp = some 7 ∧ work.byteAt (work.sp + 1) = some 8 := by decide

theorem witness_CallsAndRestarts : restartCode 2 = true ∧ restartCode 7 = true := by decide

/-- The hypotheses of Returns: a false and a true condition, and three readable bytes. -/
theorem witness_Returns :
    ¬condRef work.main.f .z ∧ condRef work.main.f .nz ∧ work.byteAt work.sp = some 7 ∧
      work.byteAt (work.sp + 1) = some 8 ∧ work.byteAt (work.sp + 2) = some 9 :=
        ⟨by simp [condRef]; decide, rfl, rfl, rfl, rfl⟩

theorem witness_LongCallReturns :
    (∀ k ∈ [1, 2, 3],
      translate (work.sp - BitVec.ofNat 16 k) 0x10 work.mmu = work.phys (work.sp - BitVec.ofNat 16 k)) ∧
      work.phys (work.sp - 1) ≠ work.phys (work.sp - 2) ∧ work.phys (work.sp - 1) ≠ work.phys (work.sp - 3) ∧
      work.phys (work.sp - 2) ≠ work.phys (work.sp - 3) := by decide

/-- `JR $` and `JP $`. -/
theorem witness_EndOfRunFixed : EndOfRun (start [0x18, 0xFE]) ∧ EndOfRun (start [0xC3, 0x00, 0x01]) := by
  unfold EndOfRun
  decide

/-- The least and greatest address of each range. -/
theorem witness_WindowTranslation :
    0xE000 ≤ (0xE000#16).toNat ∧ 0xE000 ≤ (0xFFFF#16).toNat ∧ (0xDFFF#16).toNat < 0xE000 ∧ (0#16).toNat < 0xE000 ∧
      work.mmu = State.reset.mmu := by decide

end Sys2Proof.Tests
end

section
/-! PROOFS. The frame of an operation as a list of pieces: rules to compose frames, and the frame of every shared
operation and of every body. -/

namespace Sys2Proof.Claims

open Sys2Proof.Machine

variable {s t u : State} {c : Ctx} {L M : List Piece}

theorem Piece.Same.refl (p : Piece) (s : State) : p.Same s s := by cases p <;> rfl

theorem Piece.Same.trans {p : Piece} (h : p.Same s t) (h' : p.Same t u) : p.Same s u := by
  cases p <;> exact Eq.trans h' h

theorem Keeps.refl : Keeps L s s := fun p _ => Piece.Same.refl p s

theorem Keeps.trans (h : Keeps L s t) (h' : Keeps M t u) : Keeps (L ++ M) s u := fun p hp =>
  (h p fun hl => hp (List.mem_append_left M hl)).trans (h' p fun hm => hp (List.mem_append_right L hm))

theorem Keeps.mono (h : Keeps L s t) (hs : L ⊆ M) : Keeps M s t := fun p hp => h p fun hl => hp (hs hl)

/-- The latches are no pieces. -/
theorem Piece.Same.complete {m : Marks} {p : Piece} (h : p.Same s t) : p.Same s (complete m s t) := by
  cases p <;> exact h

theorem Keeps.complete {m : Marks} (h : Keeps L s t) : Keeps L s (complete m s t) := fun p hp => (h p hp).complete

/-! ### Operations -/

/-- A change of one bank: a register or the flags it may change are listed. -/
theorem mapBank_keeps {x : Bool} {g : Bank → Bank}
    (hr : ∀ r, regPiece x r ∉ L → (g (bankOf x s)).get r = (bankOf x s).get r)
    (hf : flagPiece x ∉ L → (g (bankOf x s)).f = (bankOf x s).f) : Keeps L s (s.mapBank x g) := fun p hp => by
  cases x <;> cases p <;> first | rfl | exact hr _ hp | exact hf hp

theorem dst8_keeps (c : Ctx) (r : Reg8) (v : Byte) : Keeps [regPiece c.alt r] s (dst8 c r v s) :=
  mapBank_keeps (fun _ h => get_set_other (fun e => h (by simp [e])) v) fun _ => set_f r v

theorem setFlags_keeps (c : Ctx) (w : FlagWrite) : Keeps [flagPiece c.alt] s (setFlags c w s) :=
  mapBank_keeps (fun r _ => setFlags_get w r) fun h => absurd (List.mem_singleton.2 rfl) h

/-- A pair written changes its two halves. -/
theorem setPair_keeps (x : Bool) (q : RegZz) (w : Word) :
    Keeps (wordPieces x (.pair q)) s (s.mapBank x (·.setPair q w)) := by
  refine mapBank_keeps (fun r h => ?_) fun h => ?_
  · cases q <;> cases r <;> first | rfl | exact absurd (by simp [wordPieces]) h
  · cases q <;> first | rfl | exact absurd (by simp [wordPieces]) h

theorem wordDst_keeps (c : Ctx) (r : WordReg) (w : Word) : Keeps (wordPieces c.alt r) s (r.dst c w s) := by
  cases r with
  | pair q => exact setPair_keeps c.alt q w
  | ix | iy | sp =>
    intro p hp
    cases p <;> first | rfl | exact absurd (List.mem_singleton.2 rfl) hp

theorem keeps_pc (w : Word) : Keeps [.pc] s { s with pc := w } := fun p hp => by
  cases p <;> first | rfl | exact absurd (List.mem_singleton.2 rfl) hp

theorem keeps_sp (w : Word) : Keeps [.sp] s { s with sp := w } := fun p hp => by
  cases p <;> first | rfl | exact absurd (List.mem_singleton.2 rfl) hp

theorem keeps_ip (v : Byte) : Keeps [.ip] s { s with ip := v } := fun p hp => by
  cases p <;> first | rfl | exact absurd (List.mem_singleton.2 rfl) hp

theorem keeps_xpc (v : Byte) : Keeps [.xpc] s { s with xpc := v } := fun p hp => by
  cases p <;> first | rfl | exact absurd (List.mem_singleton.2 rfl) hp

theorem keeps_iir (v : Byte) : Keeps [.iir] s { s with iir := v } := fun p hp => by
  cases p <;> first | rfl | exact absurd (List.mem_singleton.2 rfl) hp

theorem keeps_eir (v : Byte) : Keeps [.eir] s { s with eir := v } := fun p hp => by
  cases p <;> first | rfl | exact absurd (List.mem_singleton.2 rfl) hp

/-- Memory is no piece. -/
theorem physWrite_keeps (p : PhysAddr) (v : Byte) : Keeps [] s (physWrite p v s) := fun q _ => by cases q <;> rfl

theorem memWrite_keeps (a : Word) (v : Byte) : Keeps [] s (memWrite a v s) := physWrite_keeps _ v

theorem memWrite16_keeps (a w : Word) : Keeps [] s (memWrite16 a w s) := (memWrite_keeps _ _).trans (memWrite_keeps _ _)

theorem physWrite16_keeps (p : PhysAddr) (w : Word) : Keeps [] s (physWrite16 p w s) :=
  (physWrite_keeps _ _).trans (physWrite_keeps _ _)

theorem push8_keeps (v : Byte) : Keeps [.sp] s (push8 v s) := (memWrite_keeps (s.sp - 1) v).trans (keeps_sp _)

theorem push16_keeps (w : Word) : Keeps [.sp] s (push16 w s) :=
  ((memWrite_keeps (s.sp - 1) (hi w)).trans (memWrite_keeps (s.sp - 2) (lo w))).trans (keeps_sp _)

/-- What a source access may change under a selection (20_memory.md R78). -/
def readPieces : Option IoSpace → List Piece
  | none => []
  | some _ => [.ioIn, .ioDraws, .ioTrace]

/-- What a destination access may change under a selection (20_memory.md R78). -/
def writePieces : Option IoSpace → List Piece
  | none => []
  | some _ => [.mmu, .mmuIn, .ioTrace]

theorem srcRead_keeps {a : Word} {v : Byte} (h : srcRead c a s = .ok (v, u)) : Keeps (readPieces c.io) s u := by
  obtain ⟨hnone, i, d, e, rfl⟩ := srcRead_shape h
  cases hc : c.io with
  | none =>
    rw [hnone hc]
    exact .refl
  | some x =>
    intro p hp
    cases p <;> first | rfl | exact absurd (by simp [readPieces]) hp

theorem srcRead16_keeps {a w : Word} (h : srcRead16 c a s = .ok (w, u)) : Keeps (readPieces c.io) s u := by
  obtain ⟨hnone, i, d, e, rfl⟩ := srcRead16_shape h
  cases hc : c.io with
  | none =>
    rw [hnone hc]
    exact .refl
  | some x =>
    intro p hp
    cases p <;> first | rfl | exact absurd (by simp [readPieces]) hp

theorem dstWrite_keeps (c : Ctx) (a : Word) (v : Byte) : Keeps (writePieces c.io) s (dstWrite c a v s) := by
  rcases dstWrite_shape c a v s with ⟨hc, h⟩ | ⟨x, hc, h⟩ <;> rw [hc, h]
  · exact memWrite_keeps a v
  · intro p hp
    cases p <;> first | rfl | exact absurd (by simp [writePieces]) hp

theorem dstWrite16_keeps (c : Ctx) (a w : Word) : Keeps (writePieces c.io) s (dstWrite16 c a w s) :=
  ((dstWrite_keeps c a (lo w)).trans (dstWrite_keeps c (a + 1) (hi w))).mono (by simp)

theorem byteSrc_keeps {o : ByteSrc} {v : Byte} (h : o.read c s = .ok (v, u)) : Keeps (readPieces c.io) s u := by
  rcases byteSrc_ok.1 h with ⟨q, -, e⟩ | ⟨n, -, e⟩ | ⟨m, -, h⟩
  · cases e
    exact .refl
  · cases e
    exact .refl
  · exact srcRead_keeps h

/-! ### Bodies -/

theorem setByte_keeps {r : Reg8} {v : State → Byte} (h : setByte r v c s = .ok t) : Keeps [regPiece c.alt r] s t := by
  rw [setByte_ok.1 h]
  exact dst8_keeps c r _

theorem setWord_keeps {r : WordReg} {w : State → Word} (h : setWord r w c s = .ok t) :
    Keeps (wordPieces c.alt r) s t := by
  rw [setWord_ok.1 h]
  exact wordDst_keeps c r _

/-- The frame of the 16-bit arithmetic, logic and rotates too, which are this body. -/
theorem setWordFlags_keeps {r : WordReg} {w : State → Word} {f : State → FlagWrite}
    (h : setWordFlags r w f c s = .ok t) : Keeps (wordPieces c.alt r ++ [flagPiece c.alt]) s t := by
  rw [setWordFlags_ok.1 h]
  exact (wordDst_keeps c r _).trans (setFlags_keeps c _)

theorem modifyReg_keeps {r : Reg8} {g : Byte → Byte} {f : Byte → FlagWrite} (h : modifyReg r g f c s = .ok t) :
    Keeps ([regPiece c.alt r] ++ [flagPiece c.alt]) s t := by
  rw [modifyReg_ok.1 h]
  exact (dst8_keeps c r _).trans (setFlags_keeps c _)

theorem storeByte_keeps {m : MemAt} {v : State → Byte} (h : storeByte m v c s = .ok t) :
    Keeps (writePieces c.io) s t := by
  rw [storeByte_ok.1 h]
  exact dstWrite_keeps c _ _

theorem storeWord_keeps {m : MemAt} {r : WordReg} (h : storeWord m r c s = .ok t) : Keeps (writePieces c.io) s t := by
  rw [storeWord_ok.1 h]
  exact dstWrite16_keeps c _ _

theorem storeFrame_keeps {n : Byte} {r : WordReg} (h : storeFrame n r c s = .ok t) : Keeps [] s t := by
  rw [storeFrame_ok.1 h]
  exact memWrite16_keeps _ _

theorem storePhys_keeps {a : State → Word} {r : WordReg} (h : storePhys a r c s = .ok t) : Keeps [] s t := by
  rw [storePhys_ok.1 h]
  exact physWrite16_keeps _ _

theorem pushWord_keeps {r : WordReg} (h : pushWord r c s = .ok t) : Keeps [.sp] s t := by
  rw [pushWord_ok.1 h]
  exact push16_keeps _

theorem callTo_keeps {a : State → Word} (h : callTo a c s = .ok t) : Keeps ([.sp] ++ [.pc]) s t := by
  rw [callTo_ok.1 h]
  exact (push16_keeps s.pc).trans (keeps_pc _)

theorem jumpIf_keeps {p : State → Bool} {a : State → Word} (h : jumpIf p a c s = .ok t) : Keeps [.pc] s t := by
  rw [jumpIf_ok.1 h]
  split
  · exact keeps_pc _
  · exact .refl

theorem ipSet_keeps {p : BitVec 2} (h : ipSet p c s = .ok t) : Keeps [.ip] s t := by
  rw [ipSet_ok.1 h]
  exact keeps_ip _

theorem loadByte_keeps {r : Reg8} {m : MemAt} (h : loadByte r m c s = .ok t) :
    Keeps (readPieces c.io ++ [regPiece c.alt r]) s t := by
  obtain ⟨v, u, hr, rfl⟩ := loadByte_ok.1 h
  exact (srcRead_keeps hr).trans (dst8_keeps c r v)

theorem loadWord_keeps {r : WordReg} {m : MemAt} (h : loadWord r m c s = .ok t) :
    Keeps (readPieces c.io ++ wordPieces c.alt r) s t := by
  obtain ⟨w, u, hr, rfl⟩ := loadWord_ok.1 h
  exact (srcRead16_keeps hr).trans (wordDst_keeps c r w)

theorem loadFrame_keeps {r : WordReg} {n : Byte} (h : loadFrame r n c s = .ok t) : Keeps (wordPieces c.alt r) s t := by
  obtain ⟨w, -, rfl⟩ := loadFrame_ok.1 h
  exact wordDst_keeps c r w

theorem loadPhys_keeps {r : WordReg} {a : State → Word} (h : loadPhys r a c s = .ok t) :
    Keeps (wordPieces c.alt r) s t := by
  obtain ⟨w, -, rfl⟩ := loadPhys_ok.1 h
  exact wordDst_keeps c r w

theorem exchangeTop_keeps {r : WordReg} (h : exchangeTop r c s = .ok t) : Keeps (wordPieces c.alt r) s t := by
  obtain ⟨w, -, rfl⟩ := exchangeTop_ok.1 h
  exact (memWrite16_keeps s.sp (r.read s)).trans (wordDst_keeps c r w)

theorem popWord_keeps {r : WordReg} (h : popWord r c s = .ok t) : Keeps ([.sp] ++ wordPieces c.alt r) s t := by
  obtain ⟨w, -, rfl⟩ := popWord_ok.1 h
  exact (keeps_sp (s.sp + 2)).trans (wordDst_keeps c r w)

theorem returnBody_keeps (h : returnBody c s = .ok t) : Keeps ([.sp] ++ [.pc]) s t := by
  obtain ⟨w, -, rfl⟩ := returnBody_ok.1 h
  exact (keeps_sp (s.sp + 2)).trans (keeps_pc w)

theorem returnFromInterrupt_keeps (h : returnFromInterrupt s = .ok t) : Keeps ([.sp] ++ [.pc] ++ [.ip]) s t := by
  obtain ⟨v, w, -, -, rfl⟩ := returnFromInterrupt_ok.1 h
  exact ((keeps_sp (s.sp + 1 + 2)).trans (keeps_pc w)).trans (keeps_ip v)

theorem alu_keeps {op : AluOp} {o : ByteSrc} (h : alu op o c s = .ok t) :
    Keeps (readPieces c.io ++ [regPiece c.alt .a] ++ [flagPiece c.alt]) s t := by
  obtain ⟨v, u, hr, rfl⟩ := alu_ok.1 h
  refine ((byteSrc_keeps hr).trans ?_).trans (setFlags_keeps c _)
  split
  · exact .refl
  · exact dst8_keeps c .a _

theorem modifyMem_keeps {m : MemAt} {g : Byte → Byte} {f : Byte → FlagWrite} (h : modifyMem m g f c s = .ok t) :
    Keeps (readPieces c.io ++ writePieces c.io ++ [flagPiece c.alt]) s t := by
  obtain ⟨v, u, hr, rfl⟩ := modifyMem_ok.1 h
  exact ((srcRead_keeps hr).trans (dstWrite_keeps c _ _)).trans (setFlags_keeps c _)

theorem setFlags_none (c : Ctx) (s : State) : setFlags c {} s = s := by
  obtain ⟨x, io⟩ := c
  cases x <;> rfl

/-- A byte changed in place that writes no flag (RES and SET). -/
theorem modifyMem_noFlags_keeps {m : MemAt} {g : Byte → Byte} (h : modifyMem m g (fun _ => {}) c s = .ok t) :
    Keeps (readPieces c.io ++ writePieces c.io) s t := by
  obtain ⟨v, u, hr, rfl⟩ := modifyMem_ok.1 h
  rw [setFlags_none]
  exact (srcRead_keeps hr).trans (dstWrite_keeps c _ _)

theorem testBit_keeps {b : BitVec 3} {o : ByteSrc} (h : testBit b o c s = .ok t) :
    Keeps (readPieces c.io ++ [flagPiece c.alt]) s t := by
  obtain ⟨v, u, hr, rfl⟩ := testBit_ok.1 h
  exact (byteSrc_keeps hr).trans (setFlags_keeps c _)

/-- The block moves write the pointers, the counter and L/V of the main bank. -/
theorem blockOnce_keeps {d : Word} (h : blockOnce d c s = .ok t) : Keeps (writePieces c.io ++ blockPieces) s t := by
  obtain ⟨v, -, rfl⟩ := blockOnce_ok.1 h
  refine (dstWrite_keeps c s.de v).trans fun p hp => ?_
  cases p with
  | main r => cases r <;> first | exact (dstWrite_main s c s.de v ▸ rfl) | exact absurd (by simp [blockPieces]) hp
  | mainF => exact absurd (by simp [blockPieces]) hp
  | _ => rfl

theorem blockLoop_keeps {d : Word} : ∀ {n : Nat} {s : State}, blockLoop d n c s = .ok t →
    Keeps (writePieces c.io ++ blockPieces) s t
  | 0, _, h => by
    rw [ok_eq.1 h]
    exact .refl
  | _ + 1, _, h => by
    obtain ⟨u, h1, h2⟩ := blockLoop_succ_ok.1 h
    exact ((blockOnce_keeps h1).trans (blockLoop_keeps h2)).mono (by simp)

end Sys2Proof.Claims
end

section
/-! PROOFS. No body looks at the latches or writes one: it sees them only through the selection `Ctx`, which `perform`
computes before the body runs. -/

namespace Sys2Proof.Proofs

open Sys2Proof.Machine Sys2Proof.Claims

/-- `s` with the four latches of `k`. -/
def relatch (k s : State) : State := { s with altd := k.altd, io := k.io, hold := k.hold, iobug := k.iobug }

/-- A body gives the same answer whatever the latches are, and leaves them as they are. -/
def LatchBlind (b : Body) : Prop := ∀ (k : State) (c : Ctx) (s : State), b c (relatch k s) = (b c s).map (relatch k)

variable {k s : State} {c : Ctx}

/-! ### Operations -/

theorem mapBank_relatch (x : Bool) (g : Bank → Bank) : (relatch k s).mapBank x g = relatch k (s.mapBank x g) := by
  cases x <;> rfl

theorem dst8_relatch (r : Reg8) (v : Byte) : dst8 c r v (relatch k s) = relatch k (dst8 c r v s) := mapBank_relatch ..

theorem setFlags_relatch (w : FlagWrite) : setFlags c w (relatch k s) = relatch k (setFlags c w s) := mapBank_relatch ..

theorem wordDst_relatch (r : WordReg) (w : Word) : r.dst c w (relatch k s) = relatch k (r.dst c w s) := by
  cases r with
  | pair p => exact mapBank_relatch c.alt (·.setPair p w)
  | ix | iy | sp => rfl

theorem wordRead_relatch (r : WordReg) : r.read (relatch k s) = r.read s := by cases r <;> rfl

theorem memAddr_relatch (m : MemAt) : m.addr (relatch k s) = m.addr s := by cases m <;> rfl

theorem dstWrite_relatch (a : Word) (v : Byte) : dstWrite c a v (relatch k s) = relatch k (dstWrite c a v s) := by
  unfold dstWrite
  split <;> rfl

theorem dstWrite16_relatch (a w : Word) : dstWrite16 c a w (relatch k s) = relatch k (dstWrite16 c a w s) := by
  simp only [dstWrite16, dstWrite_relatch]

theorem ioRead_relatch (x : IoSpace) (a : Word) :
    ioRead x a (relatch k s) = ((ioRead x a s).1, relatch k (ioRead x a s).2) := by
  unfold ioRead
  simp only [relatch]
  split <;> rfl

theorem memRead_relatch (a : Word) : memRead a (relatch k s) = memRead a s := rfl

/-- A later part of a body that is blind makes the whole blind, after a part that only reads … -/
theorem bind_value {α : Type} {x : Except Fault α} {f g : α → Except Fault State}
    (h : ∀ v, g v = (f v).map (relatch k)) : (x >>= g) = (x >>= f).map (relatch k) := by
  cases x with
  | error e => rfl
  | ok v => exact h v

/-- … and after one that answers a state as well. -/
theorem bind_state {α : Type} {x y : Except Fault (α × State)} {f : α × State → Except Fault State}
    (hx : y = x.map (Prod.map id (relatch k))) (h : ∀ v u, f (v, relatch k u) = (f (v, u)).map (relatch k)) :
    (y >>= f) = (x >>= f).map (relatch k) := by
  subst hx
  cases x with
  | error e => rfl
  | ok r => exact h r.1 r.2

theorem srcRead_relatch (a : Word) : srcRead c a (relatch k s) = (srcRead c a s).map (Prod.map id (relatch k)) := by
  unfold srcRead
  split
  · rw [ioRead_relatch]
    rfl
  · rw [memRead_relatch]
    cases memRead a s <;> rfl

theorem srcRead16_relatch (a : Word) :
    srcRead16 c a (relatch k s) = (srcRead16 c a s).map (Prod.map id (relatch k)) := by
  unfold srcRead16
  rw [srcRead_relatch]
  rcases srcRead c a s with e | ⟨l, u⟩
  · rfl
  · simp only [Except.map, Prod.map, ok_bind, srcRead_relatch]
    rcases srcRead c (a + 1) u with e | ⟨h, w⟩ <;> rfl

theorem byteSrc_relatch (o : ByteSrc) : o.read c (relatch k s) = (o.read c s).map (Prod.map id (relatch k)) := by
  cases o with
  | reg r => rfl
  | imm n => rfl
  | mem m => simp only [ByteSrc.read, memAddr_relatch, srcRead_relatch]

theorem pop8_relatch : pop8 (relatch k s) = (pop8 s).map (Prod.map id (relatch k)) := by
  show (memRead s.sp s >>= _) = _
  unfold pop8
  cases memRead s.sp s <;> rfl

theorem pop16_relatch : pop16 (relatch k s) = (pop16 s).map (Prod.map id (relatch k)) := by
  show (memRead16 s.sp s >>= _) = _
  unfold pop16
  cases memRead16 s.sp s <;> rfl

/-! ### Bodies -/

/-- A body that always answers. -/
theorem blind_ok {g : Ctx → State → State} (h : ∀ k c s, g c (relatch k s) = relatch k (g c s)) :
    LatchBlind fun c s => .ok (g c s) := fun k c s => congrArg Except.ok (h k c s)

theorem setByte_blind {r : Reg8} {v : State → Byte} (hv : ∀ k s, v (relatch k s) = v s) :
    LatchBlind (setByte r v) :=
  blind_ok fun k c s => by rw [hv, dst8_relatch]

theorem setWord_blind {r : WordReg} {w : State → Word} (hw : ∀ k s, w (relatch k s) = w s) :
    LatchBlind (setWord r w) :=
  blind_ok fun k c s => by rw [hw, wordDst_relatch]

theorem setWordFlags_blind {r : WordReg} {w : State → Word} {f : State → FlagWrite}
    (hw : ∀ k s, w (relatch k s) = w s) (hf : ∀ k s, f (relatch k s) = f s) : LatchBlind (setWordFlags r w f) :=
  blind_ok fun k c s => by rw [hw, hf, wordDst_relatch, setFlags_relatch]

theorem arith16_blind {r : WordReg} {g : State → Arith 16} {f : Arith 16 → FlagWrite}
    (hg : ∀ k s, g (relatch k s) = g s) : LatchBlind (arith16 r g f) :=
  setWordFlags_blind (fun k s => by rw [hg]) fun k s => by rw [hg]

theorem logic16_blind {r : WordReg} {g : State → Word} (hg : ∀ k s, g (relatch k s) = g s) :
    LatchBlind (logic16 r g) :=
  setWordFlags_blind hg fun k s => by rw [hg]

theorem boolWord_blind {r : WordReg} : LatchBlind (boolWord r) :=
  setWordFlags_blind (fun k s => by rw [wordRead_relatch]) fun k s => by rw [wordRead_relatch]

theorem rotateRightWord_blind {r : WordReg} : LatchBlind (rotateRightWord r) :=
  setWordFlags_blind (fun k s => by rw [wordRead_relatch]; rfl) fun k s => by rw [wordRead_relatch]; rfl

theorem modifyReg_relatch {r : Reg8} {g : Byte → Byte} {f : Byte → FlagWrite} :
    modifyReg r g f c (relatch k s) = (modifyReg r g f c s).map (relatch k) :=
  blind_ok (g := fun c s => setFlags c (f (s.main.get r)) (dst8 c r (g (s.main.get r)) s))
    (fun k c s => by rw [dst8_relatch, setFlags_relatch]; rfl) k c s

theorem modifyMem_relatch {m : MemAt} {g : Byte → Byte} {f : Byte → FlagWrite} :
    modifyMem m g f c (relatch k s) = (modifyMem m g f c s).map (relatch k) := by
  unfold modifyMem
  rw [memAddr_relatch]
  refine bind_state (srcRead_relatch _) fun v u => congrArg Except.ok ?_
  rw [dstWrite_relatch, setFlags_relatch]

theorem modifyReg_blind {r : Reg8} {g : Byte → Byte} {f : Byte → FlagWrite} : LatchBlind (modifyReg r g f) :=
  fun _ _ _ => modifyReg_relatch

theorem modifyMem_blind {m : MemAt} {g : Byte → Byte} {f : Byte → FlagWrite} : LatchBlind (modifyMem m g f) :=
  fun _ _ _ => modifyMem_relatch

theorem shiftReg_blind {op : ShiftOp} {r : Reg8} : LatchBlind (shiftReg op r) := fun _ _ _ => modifyReg_relatch

theorem shiftMem_blind {op : ShiftOp} {m : MemAt} : LatchBlind (shiftMem op m) := fun _ _ _ => modifyMem_relatch

theorem rotateA_blind {op : ShiftOp} : LatchBlind (rotateA op) := fun _ _ _ => modifyReg_relatch

theorem storeByte_blind {m : MemAt} {v : State → Byte} (hv : ∀ k s, v (relatch k s) = v s) :
    LatchBlind (storeByte m v) :=
  blind_ok fun k c s => by rw [hv, memAddr_relatch, dstWrite_relatch]

theorem storeWord_blind {m : MemAt} {r : WordReg} : LatchBlind (storeWord m r) :=
  blind_ok fun k c s => by rw [memAddr_relatch, wordRead_relatch, dstWrite16_relatch]

theorem storeFrame_blind {n : Byte} {r : WordReg} : LatchBlind (storeFrame n r) :=
  blind_ok (g := fun _ s => memWrite16 (spnAddr n s) (r.read s) s) fun k c s => by rw [wordRead_relatch]; rfl

theorem storePhys_blind {a : State → Word} {r : WordReg} (ha : ∀ k s, a (relatch k s) = a s) :
    LatchBlind (storePhys a r) :=
  blind_ok (g := fun _ s => physWrite16 (ldpAddr s.main.a (a s)) (r.read s) s)
    fun k c s => by rw [wordRead_relatch, ha]; rfl

theorem pushWord_blind {r : WordReg} : LatchBlind (pushWord r) :=
  blind_ok (g := fun _ s => push16 (r.read s) s) fun k c s => by rw [wordRead_relatch]; rfl

theorem callTo_blind {a : State → Word} (ha : ∀ k s, a (relatch k s) = a s) : LatchBlind (callTo a) :=
  blind_ok (g := fun _ s => { push16 s.pc s with pc := a s }) fun k c s => by rw [ha]; rfl

theorem jumpIf_blind {p : State → Bool} {a : State → Word} (hp : ∀ k s, p (relatch k s) = p s)
    (ha : ∀ k s, a (relatch k s) = a s) : LatchBlind (jumpIf p a) :=
  blind_ok (g := fun _ s => if p s then { s with pc := a s } else s) fun k c s => by
    rw [hp, ha]
    split <;> rfl

theorem loadByte_blind {r : Reg8} {m : MemAt} : LatchBlind (loadByte r m) := fun k c s => by
  unfold loadByte
  rw [memAddr_relatch]
  exact bind_state (srcRead_relatch _) fun v u => congrArg Except.ok (dst8_relatch r v)

theorem loadWord_blind {r : WordReg} {m : MemAt} : LatchBlind (loadWord r m) := fun k c s => by
  unfold loadWord
  rw [memAddr_relatch]
  exact bind_state (srcRead16_relatch _) fun w u => congrArg Except.ok (wordDst_relatch r w)

theorem loadFrame_blind {r : WordReg} {n : Byte} : LatchBlind (loadFrame r n) := fun _ _ _ =>
  bind_value fun w => congrArg Except.ok (wordDst_relatch r w)

theorem loadPhys_blind {r : WordReg} {a : State → Word} (ha : ∀ k s, a (relatch k s) = a s) :
    LatchBlind (loadPhys r a) := fun k c s => by
  unfold loadPhys
  rw [ha]
  exact bind_value fun w => congrArg Except.ok (wordDst_relatch r w)

theorem exchangeTop_blind {r : WordReg} : LatchBlind (exchangeTop r) := fun k c s => by
  unfold exchangeTop
  rw [wordRead_relatch]
  exact bind_value fun w => congrArg Except.ok (wordDst_relatch (s := memWrite16 s.sp (r.read s) s) r w)

theorem popWord_blind {r : WordReg} : LatchBlind (popWord r) := fun _ _ _ =>
  bind_state pop16_relatch fun w _ => congrArg Except.ok (wordDst_relatch r w)

theorem returnBody_relatch : returnBody c (relatch k s) = (returnBody c s).map (relatch k) :=
  bind_state pop16_relatch fun _ _ => rfl

theorem returnFromInterrupt_relatch :
    returnFromInterrupt (relatch k s) = (returnFromInterrupt s).map (relatch k) :=
  bind_state pop8_relatch fun _ _ => bind_state pop16_relatch fun _ _ => rfl

theorem alu_blind {op : AluOp} {o : ByteSrc} : LatchBlind (alu op o) := fun k c s => by
  refine bind_state (byteSrc_relatch o) fun v u => congrArg Except.ok ?_
  split
  · exact setFlags_relatch _
  · exact dst8_relatch (s := u) .a _ ▸ setFlags_relatch _

theorem testBit_blind {b : BitVec 3} {o : ByteSrc} : LatchBlind (testBit b o) := fun _ _ _ =>
  bind_state (byteSrc_relatch o) fun _ _ => congrArg Except.ok (setFlags_relatch _)

theorem blockOnce_blind {d : Word} : LatchBlind (blockOnce d) := fun _ c s =>
  bind_value (x := memRead s.hl s) fun v => congrArg Except.ok (by
    rw [show ∀ k, dstWrite c (relatch k s).de v (relatch k s) = relatch k (dstWrite c s.de v s) from
      fun k => dstWrite_relatch s.de v]
    rfl)

theorem blockLoop_succ (d : Word) (n : Nat) (c : Ctx) (s : State) :
    blockLoop d (n + 1) c s = blockOnce d c s >>= blockLoop d n c := rfl

theorem blockLoop_blind {d : Word} : ∀ n, LatchBlind (blockLoop d n)
  | 0 => fun _ _ _ => rfl
  | n + 1 => fun k c s => by
    rw [blockLoop_succ, blockLoop_succ, blockOnce_blind]
    cases blockOnce d c s with
    | error e => rfl
    | ok u => exact blockLoop_blind n k c u

end Sys2Proof.Proofs
end

section
/-! PROOFS. Every instruction but ALTD, IOI and IOE executes one body under its marks; which body, and what that body
may change, is said once for each constructor. -/

namespace Sys2Proof.Proofs

open Sys2Proof.Machine Sys2Proof.Claims

/-- The marks of an instruction, from the spec's lists. -/
def marksOf (i : Instr) : Marks :=
  { altd := altdMarked i, io := ioMarked i, bug := oneByteHl i, priv := privileged i }

/-- `writesFlags` without the pops of BC, DE and HL (10_state.md R44). -/
def writesF : Instr → Bool
  | .popZz zz => zz == .af
  | i => writesFlags i

/-- The instructions that write the alternate bank without ALTD (10_state.md R33). -/
def writesAlternate : Instr → Bool
  | .exAfAltAf | .exx | .exAltDeHl | .ldAltDdBc _ | .ldAltDdDe _ => true
  | _ => false

/-- Whether an instruction may write the main bank under a selection: EX DE,HL is the one marked form that does under
ALTD (45_prefix_block.md R431). -/
def MainOpen (c : Ctx) (i : Instr) : Prop := c.alt = false ∨ altdMarked i = false ∨ i = .exDeHl

/-- Whether an instruction may write the alternate bank under a selection. -/
def AltOpen (c : Ctx) (i : Instr) : Prop := c.alt = true ∨ writesAlternate i = true

/-- The pieces an instruction may change under a selection, after the spec's lists of writers. -/
def Allowed (c : Ctx) (i : Instr) : Piece → Prop
  | .main _ => MainOpen c i
  | .mainF => MainOpen c i ∧ writesF i = true
  | .alt _ => AltOpen c i
  | .altF => AltOpen c i ∧ writesF i = true
  | .ix | .iy | .sp => True
  | .pc => writesPc i = true
  | .xpc => writesXpc i = true
  | .ip => writesIp i = true
  | .iir => i = .ldIirA
  | .eir => i = .ldEirA
  | .irq => False
  | .mmu | .mmuIn => c.io ≠ none ∧ storesBytes i = true
  | .ioIn | .ioDraws | .ioTrace => c.io ≠ none

/-- All pieces of a list are allowed. -/
def Within (c : Ctx) (i : Instr) (L : List Piece) : Prop := ∀ p ∈ L, Allowed c i p

/-- A body changes only what its instruction may change. -/
def Footprint (i : Instr) (b : Body) : Prop :=
  ∀ (c : Ctx) (s t : State), b c s = .ok t → ∀ p, ¬Allowed c i p → p.Same s t

/-- An instruction executes a body under its marks (where ALTD and a destination SP do not meet), and the body sees no
latch and changes only what the instruction may. -/
structure Runs (i : Instr) (b : Body) : Prop where
  exec_eq : ∀ s, exec i s =
    if destinationSp i = true ∧ s.altd = true then .refused .altdSp else perform (marksOf i) b s
  blind : LatchBlind b
  footprint : Footprint i b

variable {i : Instr} {b : Body} {c : Ctx} {L M : List Piece} {s t : State}

theorem Footprint.of_keeps {L : Ctx → List Piece} (hk : ∀ {c s t}, b c s = .ok t → Keeps (L c) s t)
    (hw : ∀ c, Within c i (L c)) : Footprint i b := fun c _ _ h p hp => hk h p fun hl => hp (hw c p hl)

theorem Within.nil : Within c i [] := fun _ h => absurd h List.not_mem_nil

theorem Within.append (h : Within c i L) (h' : Within c i M) : Within c i (L ++ M) := fun p hp =>
  (List.mem_append.1 hp).elim (h p) (h' p)

theorem Within.one {p : Piece} (h : Allowed c i p) : Within c i [p] := fun _ hq => List.mem_singleton.1 hq ▸ h

theorem Within.sp : Within c i [.sp] := .one trivial

theorem Within.pc (h : writesPc i = true) : Within c i [.pc] := .one h

theorem Within.ip (h : writesIp i = true) : Within c i [.ip] := .one h

theorem Within.xpc (h : writesXpc i = true) : Within c i [.xpc] := .one h

/-- A destination of the selected bank is always allowed. -/
theorem Within.reg {r : Reg8} : Within c i [regPiece c.alt r] := .one <| by
  obtain ⟨x, io⟩ := c
  cases x <;> exact .inl rfl

theorem Within.flags (h : writesF i = true) : Within c i [flagPiece c.alt] := .one <| by
  obtain ⟨x, io⟩ := c
  cases x <;> exact ⟨.inl rfl, h⟩

theorem Within.pair {q : RegZz} (h : q = .af → writesF i = true) : Within c i (wordPieces c.alt (.pair q)) := by
  cases q with
  | af => exact Within.reg.append (.flags (h rfl))
  | bc | de | hl => exact Within.reg.append .reg

theorem Within.word {r : WordReg} (h : r = .pair .af → writesF i = true) : Within c i (wordPieces c.alt r) := by
  cases r with
  | pair q => exact .pair fun e => h (e ▸ rfl)
  | ix | iy | sp => exact .one trivial

theorem ssReg_ne_af (ss : RegSs) : ssReg ss ≠ .pair .af := by cases ss <;> simp [ssReg]

theorem Within.wordFlags {r : WordReg} (hf : writesF i = true) : Within c i (wordPieces c.alt r ++ [flagPiece c.alt]) :=
  (Within.word fun _ => hf).append (.flags hf)

/-- The register of a field `ss` or `dd` is never AF. -/
theorem Within.ss {ss : RegSs} : Within c i (wordPieces c.alt (ssReg ss)) := .word fun e => absurd e (ssReg_ne_af ss)

theorem Within.reads : Within c i (readPieces c.io) := by
  unfold readPieces
  split
  · exact .nil
  · next x h => simp [Within, Allowed, h]

theorem Within.writes (hs : storesBytes i = true) : Within c i (writePieces c.io) := by
  unfold writePieces
  split
  · exact .nil
  · next x h => simp [Within, Allowed, h, hs]

theorem Within.block (hm : altdMarked i = false) (hf : writesF i = true) : Within c i blockPieces := by
  simp [Within, blockPieces, Allowed, MainOpen, hm, hf]

/-! ### Bodies that one instruction alone has -/

theorem Footprint.of_ok {g : Ctx → State → State} {L : Ctx → List Piece} (hk : ∀ c s, Keeps (L c) s (g c s))
    (hw : ∀ c, Within c i (L c)) : Footprint i fun c s => .ok (g c s) :=
  .of_keeps (fun {c s t} h => by rw [ok_eq.1 h]; exact hk c s) hw

theorem runs_mul : ∃ b, Runs .mul b :=
  ⟨_, fun _ => rfl, blind_ok fun _ _ s => wordDst_relatch (s := s) (.pair .hl) _ ▸ wordDst_relatch (.pair .bc) _,
    .of_ok (fun c _ => (wordDst_keeps c (.pair .hl) _).trans (wordDst_keeps c (.pair .bc) _))
      fun _ => Within.append (.pair nofun) (.pair nofun)⟩

/-- A pair of the alternate bank, written without ALTD. -/
theorem Within.altPair {da : RegAlt} (h : writesAlternate i = true) :
    Within c i (wordPieces true (.pair (altPair da))) := by
  cases da <;> simp [Within, wordPieces, regPiece, Machine.altPair, Allowed, AltOpen, h]

/-! The exchanges: what each may change, as far as the two banks go. -/

theorem exAfAltAf_keeps (s : State) : Keeps [.main .a, .mainF, .alt .a, .altF] s
    { s with main := s.main.setPair .af (s.alt.getPair .af), alt := s.alt.setPair .af (s.main.getPair .af) } :=
  fun p hp => by
    cases p with
    | main r | alt r => cases r <;> first | rfl | exact absurd (by simp) hp
    | mainF | altF => exact absurd (by simp) hp
    | _ => rfl

theorem exx_keeps (s : State) : Keeps ([.b, .c, .d, .e, .h, .l].flatMap fun r => [.main r, .alt r]) s
    { s with main := { s.alt with a := s.main.a, f := s.main.f }, alt := { s.main with a := s.alt.a, f := s.alt.f } } :=
  fun p hp => by
    cases p with
    | main r | alt r => cases r <;> first | rfl | exact absurd (by simp) hp
    | _ => rfl

/-- Writes of pairs of the main bank and then of the alternate bank. -/
theorem setPair_both_keeps (s : State) (p q : RegZz) (v w : Word) :
    Keeps (wordPieces false (.pair p) ++ wordPieces true (.pair q)) s
      { s with main := s.main.setPair p v, alt := s.alt.setPair q w } :=
  (setPair_keeps (s := s) false p v).trans (setPair_keeps true q w)

/-- Writes of two pairs of one bank. -/
theorem setPair_twice_keeps (s : State) (x : Bool) (p q : RegZz) (v w : Word) :
    Keeps (wordPieces x (.pair p) ++ wordPieces x (.pair q)) s (s.mapBank x fun k => (k.setPair p v).setPair q w) := by
  have h := (setPair_keeps (s := s) x p v).trans (setPair_keeps x q w)
  cases x <;> exact h

theorem exDeHl_keeps (x : Bool) (s : State) : Keeps ([.main .d, .main .e] ++ wordPieces x (.pair .hl)) s
    (if x then
      { s with main := s.main.setPair .de (s.alt.getPair .hl), alt := s.alt.setPair .hl (s.main.getPair .de) }
    else { s with main := (s.main.setPair .de (s.main.getPair .hl)).setPair .hl (s.main.getPair .de) }) := by
  cases x
  · exact setPair_twice_keeps s false .de .hl _ _
  · exact setPair_both_keeps s .de .hl _ _

theorem exAltDeHl_keeps (x : Bool) (s : State) : Keeps ([.alt .d, .alt .e] ++ wordPieces x (.pair .hl)) s
    (if x then { s with alt := (s.alt.setPair .de (s.alt.getPair .hl)).setPair .hl (s.alt.getPair .de) }
    else { s with main := s.main.setPair .hl (s.alt.getPair .de), alt := s.alt.setPair .de (s.main.getPair .hl) }) := by
  cases x
  · exact (setPair_both_keeps s .hl .de _ _).mono (by simp [wordPieces, regPiece])
  · exact setPair_twice_keeps s true .de .hl _ _

/-- Registers of both banks, for an instruction without an ALTD mark that writes the alternate bank. -/
theorem Within.exchange (hm : altdMarked i = false) (ha : writesAlternate i = true)
    (hL : ∀ p ∈ L, (∃ r, p = .main r ∨ p = .alt r) ∨ (p = .mainF ∨ p = .altF) ∧ writesF i = true) :
    Within c i L := by
  have hmain : MainOpen c i := .inr (.inl hm)
  have halt : AltOpen c i := .inr ha
  intro p hp
  obtain ⟨r, rfl | rfl⟩ | ⟨rfl | rfl, hf⟩ := hL p hp
  · exact hmain
  · exact halt
  · exact ⟨hmain, hf⟩
  · exact ⟨halt, hf⟩

theorem runs_exAfAltAf : ∃ b, Runs .exAfAltAf b :=
  ⟨_, fun _ => rfl, blind_ok fun _ _ _ => rfl, .of_ok (fun _ s => exAfAltAf_keeps s) fun _ => .exchange rfl rfl <| by
    simp [show writesF .exAfAltAf = true from rfl]⟩

theorem runs_exx : ∃ b, Runs .exx b :=
  ⟨_, fun _ => rfl, blind_ok fun _ _ _ => rfl, .of_ok (fun _ s => exx_keeps s) fun _ => .exchange rfl rfl (by simp)⟩

theorem runs_exDeHl : ∃ b, Runs .exDeHl b :=
  ⟨_, fun _ => rfl, blind_ok fun _ c _ => by cases c.alt <;> rfl, .of_ok (fun c s => exDeHl_keeps c.alt s) fun _ =>
    Within.append (by simp [Within, Allowed, MainOpen]) (.pair nofun)⟩

theorem runs_exAltDeHl : ∃ b, Runs .exAltDeHl b :=
  ⟨_, fun _ => rfl, blind_ok fun _ c _ => by cases c.alt <;> rfl, .of_ok (fun c s => exAltDeHl_keeps c.alt s) fun _ =>
    Within.append (by simp [Within, Allowed, AltOpen, writesAlternate]) (.pair nofun)⟩

/-! The stack and PC. -/

theorem pop8_keeps {v : Byte} {u : State} (h : pop8 s = .ok (v, u)) : Keeps [.sp] s u := by
  obtain ⟨-, rfl⟩ := pop8_ok.1 h
  exact keeps_sp _

theorem pop16_keeps {w : Word} {u : State} (h : pop16 s = .ok (w, u)) : Keeps [.sp] s u := by
  obtain ⟨-, rfl⟩ := pop16_ok.1 h
  exact keeps_sp _


theorem runs_popIp : ∃ b, Runs .popIp b :=
  ⟨_, fun _ => rfl, fun _ _ _ => bind_state pop8_relatch fun _ _ => rfl,
    .of_keeps (L := fun _ => [.sp] ++ [.ip]) (fun h => by
      obtain ⟨⟨v, u⟩, hv, h⟩ := bind_ok.1 h
      rw [ok_eq.1 h]
      exact (pop8_keeps hv).trans (keeps_ip v)) fun _ => Within.sp.append (.ip rfl)⟩

theorem runs_lret : ∃ b, Runs .lret b :=
  ⟨_, fun _ => rfl, fun _ _ _ => bind_state pop16_relatch fun _ _ => bind_state pop8_relatch fun _ _ => rfl,
    .of_keeps (L := fun _ => [.sp] ++ [.sp] ++ ([.pc] ++ [.xpc])) (fun h => by
      obtain ⟨⟨w, u⟩, hw, h⟩ := bind_ok.1 h
      obtain ⟨⟨v, u'⟩, hv, h⟩ := bind_ok.1 h
      rw [ok_eq.1 h]
      exact ((pop16_keeps hw).trans (pop8_keeps hv)).trans ((keeps_pc w).trans (keeps_xpc v))) fun _ =>
    (Within.sp.append .sp).append (Within.append (.pc rfl) (.xpc rfl))⟩

theorem runs_reti : ∃ b, Runs .reti b :=
  ⟨_, fun _ => rfl, fun _ _ _ => returnFromInterrupt_relatch, .of_keeps returnFromInterrupt_keeps fun _ =>
    (Within.sp.append (.pc rfl)).append (.ip rfl)⟩

theorem runs_retF (f : Cond) : ∃ b, Runs (.retF f) b :=
  ⟨_, fun _ => rfl, fun k c s => by
      show (if condHolds s.main.f f = true then _ else _) = Except.map _ (if condHolds s.main.f f = true then _ else _)
      split
      · exact returnBody_relatch
      · rfl,
    .of_keeps (L := fun _ => [.sp] ++ [.pc]) (fun h => by
      split at h
      · exact returnBody_keeps h
      · exact ok_eq.1 h ▸ .refl) fun _ => Within.sp.append (.pc rfl)⟩

theorem runs_lcallXMn (x : Byte) (mn : Word) : ∃ b, Runs (.lcallXMn x mn) b :=
  ⟨_, fun _ => rfl, blind_ok fun _ _ _ => rfl,
    .of_ok (fun _ s => ((push8_keeps s.xpc).trans (push16_keeps s.pc)).trans ((keeps_xpc x).trans (keeps_pc mn)))
      fun _ => (Within.sp.append .sp).append (Within.append (.xpc rfl) (.pc rfl))⟩

theorem runs_djnzE (e : Byte) : ∃ b, Runs (.djnzE e) b :=
  ⟨_, fun _ => rfl, blind_ok fun k c s => by
      rw [show dst8 c .b ((relatch k s).main.b - 1) (relatch k s) = relatch k (dst8 c .b (s.main.b - 1) s) from
        dst8_relatch .b _]
      show (if (s.main.b - 1 != 0) = true then _ else _) = relatch k (if (s.main.b - 1 != 0) = true then _ else _)
      split <;> rfl,
    .of_ok (fun c s => (dst8_keeps c .b (s.main.b - 1)).trans (M := [.pc]) (by
      split
      · exact keeps_pc _
      · exact .refl)) fun _ => Within.reg.append (.pc rfl)⟩

/-- The refusal of ALTD before a form whose destination is the field `ss` or `dd` (45_prefix_block.md R439). -/
theorem withAlternate_ss (ss : RegSs) (run : State → Out) (s : State) :
    withAlternate (ssReg ss) run s = if (ss == .sp) = true ∧ s.altd = true then .refused .altdSp else run s := by
  cases ss <;> simp [withAlternate_eq, ssReg]

/-- Every instruction but the latch setters executes a body under the marks that the spec lists for it, blind to the
latches and within the pieces that the spec's lists of writers allow. -/
theorem exists_runs (i : Instr) (hi : setsLatch i = false) : ∃ b, Runs i b := by
  cases i with
  | adcAAtHl | adcAAtIxd | adcAAtIyd | adcAN | adcAR | addAAtHl | addAAtIxd | addAAtIyd | addAN | addAR | andAtHl
  | andAtIxd | andAtIyd | andN | andR | cpAtHl | cpAtIxd | cpAtIyd | cpN | cpR | orAtHl | orAtIxd | orAtIyd | orN | orR
  | sbcAAtHl | sbcAAtIxd | sbcAAtIyd | sbcAN | sbcAR | subAtHl | subAtIxd | subAtIyd | subN | subR | xorAtHl | xorAtIxd
  | xorAtIyd | xorN | xorR =>
    exact ⟨_, fun _ => rfl, alu_blind, .of_keeps alu_keeps fun _ => (Within.reads.append .reg).append (.flags rfl)⟩
  | decAtHl | decAtIxd | decAtIyd | incAtHl | incAtIxd | incAtIyd =>
    exact ⟨_, fun _ => rfl, modifyMem_blind, .of_keeps modifyMem_keeps fun _ =>
      (Within.reads.append (.writes rfl)).append (.flags rfl)⟩
  | rlAtHl | rlAtIxd | rlAtIyd | rlcAtHl | rlcAtIxd | rlcAtIyd | rrAtHl | rrAtIxd | rrAtIyd | rrcAtHl | rrcAtIxd
  | rrcAtIyd | slaAtHl | slaAtIxd | slaAtIyd | sraAtHl | sraAtIxd | sraAtIyd | srlAtHl | srlAtIxd | srlAtIyd =>
    exact ⟨_, fun _ => rfl, shiftMem_blind, .of_keeps modifyMem_keeps fun _ =>
      (Within.reads.append (.writes rfl)).append (.flags rfl)⟩
  | resBAtHl | resBAtIxd | resBAtIyd | setBAtHl | setBAtIxd | setBAtIyd =>
    exact ⟨_, fun _ => rfl, modifyMem_blind, .of_keeps modifyMem_noFlags_keeps fun _ =>
      Within.reads.append (.writes rfl)⟩
  | bitBAtHl | bitBAtIxd | bitBAtIyd | bitBR =>
    exact ⟨_, fun _ => rfl, testBit_blind, .of_keeps testBit_keeps fun _ => Within.reads.append (.flags rfl)⟩
  | decR | incR =>
    exact ⟨_, fun _ => rfl, modifyReg_blind, .of_keeps modifyReg_keeps fun _ => Within.reg.append (.flags rfl)⟩
  | rla | rlca | rra | rrca =>
    exact ⟨_, fun _ => rfl, rotateA_blind, .of_keeps modifyReg_keeps fun _ => Within.reg.append (.flags rfl)⟩
  | rlR | rlcR | rrR | rrcR | slaR | sraR | srlR =>
    exact ⟨_, fun _ => rfl, shiftReg_blind, .of_keeps modifyReg_keeps fun _ => Within.reg.append (.flags rfl)⟩
  | cpl | resBR | setBR | ldRN | ldAXpc | ldRG =>
    exact ⟨_, fun _ => rfl, setByte_blind fun _ _ => rfl, .of_keeps setByte_keeps fun _ => .reg⟩
  | adcHlSs | addHlSs | sbcHlSs | addIxXx | addIyYy =>
    exact ⟨_, fun _ => rfl, arith16_blind fun _ _ => by rw [wordRead_relatch]; rfl,
      .of_keeps setWordFlags_keeps fun _ => .wordFlags rfl⟩
  | addSpD =>
    exact ⟨_, fun _ => rfl, arith16_blind fun _ _ => rfl, .of_keeps setWordFlags_keeps fun _ => .wordFlags rfl⟩
  | andHlDe | andIxDe | andIyDe | orHlDe | orIxDe | orIyDe =>
    exact ⟨_, fun _ => rfl, logic16_blind fun _ _ => rfl, .of_keeps setWordFlags_keeps fun _ => .wordFlags rfl⟩
  | boolHl | boolIx | boolIy =>
    exact ⟨_, fun _ => rfl, boolWord_blind, .of_keeps setWordFlags_keeps fun _ => .wordFlags rfl⟩
  | rrDe | rrHl | rrIx | rrIy =>
    exact ⟨_, fun _ => rfl, rotateRightWord_blind, .of_keeps setWordFlags_keeps fun _ => .wordFlags rfl⟩
  | rlDe =>
    exact ⟨_, fun _ => rfl, setWordFlags_blind (fun _ _ => rfl) fun _ _ => rfl,
      .of_keeps setWordFlags_keeps fun _ => .wordFlags rfl⟩
  | decIx | decIy | incIx | incIy | ldIxMn | ldIyMn | ldHlIx | ldHlIy | ldIxHl | ldIyHl | ldSpHl | ldSpIx | ldSpIy =>
    exact ⟨_, fun _ => rfl, setWord_blind fun _ _ => rfl, .of_keeps setWord_keeps fun _ => .word nofun⟩
  | decSs ss | incSs ss =>
    exact ⟨_, withAlternate_ss ss _, setWord_blind fun _ _ => by rw [wordRead_relatch],
      .of_keeps setWord_keeps fun _ => .ss⟩
  | ldDdMn dd mn =>
    exact ⟨_, withAlternate_ss dd _, setWord_blind fun _ _ => rfl, .of_keeps setWord_keeps fun _ => .ss⟩
  | ldDdAtMn dd mn =>
    exact ⟨_, withAlternate_ss dd _, loadWord_blind, .of_keeps loadWord_keeps fun _ => Within.reads.append .ss⟩
  | ldAtMnA | ldAtBcA | ldAtDeA | ldAtHlN | ldAtHlR | ldAtIxdN | ldAtIxdR | ldAtIydN | ldAtIydR =>
    exact ⟨_, fun _ => rfl, storeByte_blind fun _ _ => rfl, .of_keeps storeByte_keeps fun _ => .writes rfl⟩
  | ldAAtMn | ldRAtHl | ldAAtBc | ldAAtDe | ldRAtIxd | ldRAtIyd =>
    exact ⟨_, fun _ => rfl, loadByte_blind, .of_keeps loadByte_keeps fun _ => Within.reads.append .reg⟩
  | ldAtMnHl | ldAtMnIx | ldAtMnIy | ldAtMnSs | ldAtHldHl | ldAtIxdHl | ldAtIydHl =>
    exact ⟨_, fun _ => rfl, storeWord_blind, .of_keeps storeWord_keeps fun _ => .writes rfl⟩
  | ldHlAtMn | ldIxAtMn | ldIyAtMn | ldHlAtHld | ldHlAtIxd | ldHlAtIyd =>
    exact ⟨_, fun _ => rfl, loadWord_blind, .of_keeps loadWord_keeps fun _ => Within.reads.append (.word nofun)⟩
  | ldAtSpnHl | ldAtSpnIx | ldAtSpnIy =>
    exact ⟨_, fun _ => rfl, storeFrame_blind, .of_keeps storeFrame_keeps fun _ => .nil⟩
  | ldHlAtSpn | ldIxAtSpn | ldIyAtSpn =>
    exact ⟨_, fun _ => rfl, loadFrame_blind, .of_keeps loadFrame_keeps fun _ => .word nofun⟩
  | ldpAtHlHl | ldpAtIxHl | ldpAtIyHl | ldpAtMnHl | ldpAtMnIx | ldpAtMnIy =>
    exact ⟨_, fun _ => rfl, storePhys_blind fun _ _ => rfl, .of_keeps storePhys_keeps fun _ => .nil⟩
  | ldpHlAtHl | ldpHlAtIx | ldpHlAtIy | ldpHlAtMn | ldpIxAtMn | ldpIyAtMn =>
    exact ⟨_, fun _ => rfl, loadPhys_blind fun _ _ => rfl, .of_keeps loadPhys_keeps fun _ => .word nofun⟩
  | exAtSpHl | exAtSpIx | exAtSpIy =>
    exact ⟨_, fun _ => rfl, exchangeTop_blind, .of_keeps exchangeTop_keeps fun _ => .word nofun⟩
  | popIx | popIy =>
    exact ⟨_, fun _ => rfl, popWord_blind, .of_keeps popWord_keeps fun _ => Within.sp.append (.word nofun)⟩
  | popZz zz =>
    exact ⟨_, fun _ => rfl, popWord_blind, .of_keeps popWord_keeps fun _ => Within.sp.append (.pair fun h => by
      rw [h]
      rfl)⟩
  | pushIx | pushIy | pushZz =>
    exact ⟨_, fun _ => rfl, pushWord_blind, .of_keeps pushWord_keeps fun _ => .sp⟩
  | pushIp => exact ⟨_, fun _ => rfl, blind_ok fun _ _ _ => rfl, .of_ok (fun _ _ => push8_keeps _) fun _ => .sp⟩
  | ldd | ldi =>
    exact ⟨_, fun _ => rfl, blockOnce_blind, .of_keeps blockOnce_keeps fun _ =>
      Within.append (.writes rfl) (.block rfl rfl)⟩
  | lddr | ldir =>
    exact ⟨_, fun _ => rfl, fun k c s => blockLoop_blind (blockCount s.bc) k c s, .of_keeps blockLoop_keeps fun _ =>
      Within.append (.writes rfl) (.block rfl rfl)⟩
  | callMn | rstV =>
    exact ⟨_, fun _ => rfl, callTo_blind fun _ _ => rfl, .of_keeps callTo_keeps fun _ => Within.sp.append (.pc rfl)⟩
  | jpFMn | jrCcE =>
    exact ⟨_, fun _ => rfl, jumpIf_blind (fun _ _ => rfl) fun _ _ => rfl, .of_keeps jumpIf_keeps fun _ => .pc rfl⟩
  | jpAtHl | jpAtIx | jpAtIy | jpMn | jrE =>
    exact ⟨_, fun _ => rfl, blind_ok fun _ _ _ => rfl, .of_ok (fun _ _ => keeps_pc _) fun _ => .pc rfl⟩
  | ljpXMn x mn =>
    exact ⟨_, fun _ => rfl, blind_ok fun _ _ _ => rfl, .of_ok (fun _ _ => (keeps_xpc x).trans (keeps_pc mn)) fun _ =>
      Within.append (.xpc rfl) (.pc rfl)⟩
  | ret => exact ⟨_, fun _ => rfl, fun _ _ _ => returnBody_relatch, .of_keeps returnBody_keeps fun _ =>
      Within.sp.append (.pc rfl)⟩
  | ipset0 | ipset1 | ipset2 | ipset3 =>
    exact ⟨_, fun _ => rfl, blind_ok fun _ _ _ => rfl, .of_keeps ipSet_keeps fun _ => .ip rfl⟩
  | ipres => exact ⟨_, fun _ => rfl, blind_ok fun _ _ _ => rfl, .of_ok (fun _ _ => keeps_ip _) fun _ => .ip rfl⟩
  | ldXpcA => exact ⟨_, fun _ => rfl, blind_ok fun _ _ _ => rfl, .of_ok (fun _ _ => keeps_xpc _) fun _ => .xpc rfl⟩
  | ldIirA => exact ⟨_, fun _ => rfl, blind_ok fun _ _ _ => rfl, .of_ok (fun _ _ => keeps_iir _) fun _ => .one rfl⟩
  | ldEirA => exact ⟨_, fun _ => rfl, blind_ok fun _ _ _ => rfl, .of_ok (fun _ _ => keeps_eir _) fun _ => .one rfl⟩
  | neg | ldAEir | ldAIir =>
    exact ⟨_, fun _ => rfl, blind_ok fun _ _ s => dst8_relatch (s := s) .a _ ▸ setFlags_relatch _,
      .of_ok (fun c _ => (dst8_keeps c .a _).trans (setFlags_keeps c _)) fun _ => Within.reg.append (.flags rfl)⟩
  | ccf | scf =>
    exact ⟨_, fun _ => rfl, blind_ok fun _ _ _ => setFlags_relatch _, .of_ok (fun c _ => setFlags_keeps c _) fun _ =>
      .flags rfl⟩
  | ldAltDdBc da | ldAltDdDe da =>
    exact ⟨_, fun _ => rfl, blind_ok fun _ _ _ => rfl, .of_ok (fun _ _ => setPair_keeps true (altPair da) _) fun _ =>
      .altPair rfl⟩
  | nop => exact ⟨_, fun _ => rfl, blind_ok fun _ _ _ => rfl, .of_ok (fun _ _ => .refl) fun _ => .nil⟩
  | mul => exact runs_mul
  | exAfAltAf => exact runs_exAfAltAf
  | exx => exact runs_exx
  | exDeHl => exact runs_exDeHl
  | exAltDeHl => exact runs_exAltDeHl
  | popIp => exact runs_popIp
  | lret => exact runs_lret
  | reti => exact runs_reti
  | retF f => exact runs_retF f
  | lcallXMn x mn => exact runs_lcallXMn x mn
  | djnzE e => exact runs_djnzE e
  | altd | ioi | ioe => exact absurd hi (by decide)

end Sys2Proof.Proofs
end

section
/-! PROOFS. What every instruction keeps: the writers of the control registers, PC, the flags and the alternate bank,
the life of the latches, and the remembered I/O selection. -/

namespace Sys2Proof.Proofs

open Sys2Proof.Machine Sys2Proof.Claims

variable {i : Instr} {b : Body} {s t u : State}

/-! ### One lemma for everything an instruction can change -/

theorem Runs.next_iff (hr : Runs i b) :
    exec i s = .next t ↔ ¬(destinationSp i = true ∧ s.altd = true) ∧
      ∃ u, b ((marksOf i).ctx s) s = .ok u ∧ t = complete (marksOf i) s u := by
  rw [hr.exec_eq]
  split <;> simp [*, perform_next]

/-- ALTD, IOI and IOE change latches only. -/
theorem exec_setsLatch (hi : setsLatch i = true) (h : exec i s = .next t) : ∃ k, t = relatch k s := by
  cases i with
  | altd => exact ⟨{ s with altd := true, hold := true }, by cases h; rfl⟩
  | ioi | ioe =>
    obtain ⟨-, rfl⟩ := selectIo_next.1 h
    exact ⟨{ s with io := some _, hold := true, iobug := none }, rfl⟩
  | _ => exact absurd hi Bool.false_ne_true

/-- An instruction leaves every piece as it was that the spec's lists do not let it write. -/
theorem exec_same (h : exec i s = .next t) {p : Piece} (hp : ¬Allowed ((marksOf i).ctx s) i p) : p.Same s t := by
  cases hi : setsLatch i with
  | false =>
    obtain ⟨b, hr⟩ := exists_runs i hi
    obtain ⟨-, u, hu, rfl⟩ := hr.next_iff.1 h
    exact (hr.footprint _ s u hu p hp).complete
  | true =>
    obtain ⟨k, rfl⟩ := exec_setsLatch hi h
    cases p <;> rfl

theorem ctx_io_of_unmarked (h : ioMarked i = false) : ((marksOf i).ctx s).io = none := by simp [Marks.ctx, marksOf, h]

theorem ctx_alt_of_clear (h : s.altd = false) : ((marksOf i).ctx s).alt = false := by simp [Marks.ctx, h]

/-- Settles O12. -/
theorem controlRegisterWriters : Obligations.ControlRegisterWriters := by
  intro i s t h
  refine ⟨fun hw => exec_same h (p := .ip) ?_, fun hw => exec_same h (p := .xpc) ?_,
    fun hi => exec_same h (p := .iir) hi, fun hi => exec_same h (p := .eir) hi, exec_same h (p := .irq) id,
    fun hm => exec_same h (p := .mmu) ?_⟩
  · simp [Allowed, hw]
  · simp [Allowed, hw]
  · rintro ⟨hio, hs⟩
    obtain hm | hm := hm
    · simp [hm] at hs
    · exact hio (ctx_io_of_unmarked hm)

/-- Settles O13. -/
theorem pcWriters : Obligations.PcWriters := fun i s t h hw => exec_same h (p := .pc) (by simp [Allowed, hw])

/-- The flag writers of the table, with the pops of BC, DE and HL taken out. -/
theorem writesF_eq_false (h : writesFlags i = false ∨ ∃ zz, i = .popZz zz ∧ zz ≠ .af) : writesF i = false := by
  obtain h | ⟨zz, rfl, hz⟩ := h
  · cases i with
    | popZz zz => exact Bool.noConfusion h
    | _ => exact h
  · cases zz with
    | af => exact absurd rfl hz
    | _ => rfl

/-- Settles O14. -/
theorem flagWriters : Obligations.FlagWriters := by
  intro i s t h hw
  have hf := writesF_eq_false hw
  exact ⟨exec_same h (p := .mainF) (by simp [Allowed, hf]), exec_same h (p := .altF) (by simp [Allowed, hf])⟩

/-- A bank is its seven registers and its flags. -/
theorem bank_ext {k k' : Bank} (hr : ∀ r, k.get r = k'.get r) (hf : k.f = k'.f) : k = k' := by
  have ha := hr .a
  have hb := hr .b
  have hc := hr .c
  have hd := hr .d
  have he := hr .e
  have hh := hr .h
  have hl := hr .l
  cases k
  cases k'
  simp_all [Bank.get]

theorem writesAlternate_eq_false
    (h : i ≠ .exAfAltAf ∧ i ≠ .exx ∧ i ≠ .exAltDeHl ∧ ∀ da, i ≠ .ldAltDdBc da ∧ i ≠ .ldAltDdDe da) :
    writesAlternate i = false := by
  obtain ⟨hAf, hExx, hDe, hLd⟩ := h
  cases i with
  | exAfAltAf => exact absurd rfl hAf
  | exx => exact absurd rfl hExx
  | exAltDeHl => exact absurd rfl hDe
  | ldAltDdBc da => exact absurd rfl (hLd da).1
  | ldAltDdDe da => exact absurd rfl (hLd da).2
  | _ => rfl

/-- Settles O15. -/
theorem alternateBankWriters : Obligations.AlternateBankWriters := by
  intro i s t h halt hi
  have hopen : ¬AltOpen ((marksOf i).ctx s) i := by
    simp [AltOpen, ctx_alt_of_clear halt, writesAlternate_eq_false hi]
  exact bank_ext (fun r => exec_same h (p := .alt r) hopen) (exec_same h (p := .altF) fun ha => hopen ha.1)

/-! ### The latches -/

/-- The latches after an instruction that is not a latch setter. -/
theorem exec_latches (hi : setsLatch i = false) (h : exec i s = .next t) :
    t.altd = false ∧ t.io = none ∧ t.hold = privileged i ∧ t.iobug = if ioMarked i then s.io else none := by
  obtain ⟨b, hr⟩ := exists_runs i hi
  obtain ⟨-, u, -, rfl⟩ := hr.next_iff.1 h
  exact ⟨rfl, rfl, rfl, rfl⟩

/-- Settles O17. -/
theorem latchLife : Obligations.LatchLife := by
  intro i s t h
  cases hi : setsLatch i with
  | false =>
    obtain ⟨ha, hio, hh, hb⟩ := exec_latches hi h
    have hne : i ≠ .altd := fun e => by rw [e] at hi; exact Bool.noConfusion hi
    exact ⟨fun _ => ⟨ha, hio⟩, by simp [hh], by simp [hb, hne]⟩
  | true =>
    refine ⟨nofun, ?_⟩
    cases i with
    | altd =>
      cases h
      exact ⟨rfl, rfl⟩
    | ioi | ioe =>
      obtain ⟨-, rfl⟩ := selectIo_next.1 h
      exact ⟨rfl, rfl⟩
    | _ => exact absurd hi Bool.false_ne_true

/-! ### The remembered I/O selection -/

/-- Two states that differ in the latches only, under one selection: the same body answers, and the latches after it are
the same where the io latch was. -/
theorem perform_relatch {m : Marks} (hb : LatchBlind b) (k : State) (hc : m.ctx (relatch k s) = m.ctx s)
    (hio : m.io = true → k.io = s.io) : perform m b (relatch k s) = perform m b s := by
  have hcomplete (u : State) : complete m (relatch k s) (relatch k u) = complete m s u := by
    cases hm : m.io with
    | false => simp [complete, relatch, hm]
    | true => simp [complete, relatch, hio hm]
  unfold perform
  rw [hc, hb]
  cases b (m.ctx s) s with
  | error e => rfl
  | ok u => exact congrArg _ (hcomplete u)

/-- The remembered selection counts only for the twelve forms without an io latch. -/
theorem ctx_iobug (x : Option IoSpace) (h : oneByteHl i = false ∨ s.io ≠ none) :
    (marksOf i).ctx { s with iobug := x } = (marksOf i).ctx s := by
  obtain h | h := h
  · simp [Marks.ctx, marksOf, h]
  · obtain ⟨sp, hsp⟩ := Option.ne_none_iff_exists'.1 h
    simp [Marks.ctx, marksOf, hsp]

theorem exec_iobug (hi : i ≠ .altd) (x : Option IoSpace) (h : oneByteHl i = false ∨ s.io ≠ none) :
    exec i { s with iobug := x } = exec i s := by
  cases hs : setsLatch i with
  | false =>
    obtain ⟨b, hr⟩ := exists_runs i hs
    rw [hr.exec_eq, hr.exec_eq]
    exact if_congr Iff.rfl rfl (perform_relatch hr.blind { s with iobug := x } (ctx_iobug x h) fun _ => rfl)
  | true =>
    cases i with
    | altd => exact absurd rfl hi
    | ioi | ioe => rfl
    | _ => exact absurd hs Bool.false_ne_true

/-- The twelve forms are marked D or S, set no latch and have no destination SP. -/
theorem oneByteHl_marks (h : oneByteHl i = true) :
    ioMarked i = true ∧ setsLatch i = false ∧ destinationSp i = false := by
  cases i with
  | adcAAtHl | addAAtHl | andAtHl | cpAtHl | orAtHl | sbcAAtHl | subAtHl | xorAtHl | decAtHl | incAtHl | ldAtHlR
  | ldRAtHl => exact ⟨rfl, rfl, rfl⟩
  | _ => exact absurd h Bool.false_ne_true

/-- One of the twelve forms uses the remembered selection as it would use the same io latch. -/
theorem exec_twelve {sp : IoSpace} (h : oneByteHl i = true)
    (hx : exec i { s with io := none, iobug := some sp } = .next t) :
    exec i { s with io := some sp } = .next { t with iobug := some sp } := by
  obtain ⟨hmark, hset, hsp⟩ := oneByteHl_marks h
  obtain ⟨b, hr⟩ := exists_runs i hset
  have hctx : (marksOf i).ctx { s with io := some sp } = (marksOf i).ctx { s with io := none, iobug := some sp } := by
    simp [Marks.ctx, marksOf, h, hmark]
  obtain ⟨hd, u, hu, rfl⟩ := hr.next_iff.1 hx
  refine hr.next_iff.2 ⟨hd, relatch { s with io := some sp } u, ?_, ?_⟩
  · rw [hctx]
    have hblind := hr.blind { s with io := some sp } ((marksOf i).ctx { s with io := none, iobug := some sp })
      { s with io := none, iobug := some sp }
    rw [hu] at hblind
    exact hblind
  · simp [complete, relatch, marksOf, hmark]

/-- Settles O23. -/
theorem bugOnlyTwelve : Obligations.BugOnlyTwelve := fun _ _ x =>
  ⟨fun hi h => exec_iobug hi x h, fun _ _ h hx => exec_twelve h hx⟩

end Sys2Proof.Proofs
end

section
/-! PROOFS. The exchanges between the banks, the jumps, and the two statements about reset. -/

namespace Sys2Proof.Proofs

open Sys2Proof.Machine Sys2Proof.Claims

variable {i : Instr} {s t u : State} {L : List Piece} {P : State → Prop}

/-- To show what an instruction does: its marks, the state before the latches are let go, and the frame of that. -/
theorem completes_of_exec (m : Marks) {hold : Bool} {bug : Option IoSpace} (he : exec i s = .next (complete m s u))
    (hk : Keeps L s u) (hP : P (complete m s u)) (hhold : m.priv = hold := by rfl)
    (hbug : (if m.io then s.io else none) = bug := by rfl) : Completes i s hold bug L P :=
  ⟨complete m s u, he, hk.complete, ⟨rfl, rfl, hhold, hbug⟩, hP⟩

theorem memKept_of_mem (h : t.mem = s.mem) : MemKept s t := fun p => by unfold State.physByte; rw [h]

/-! ### Exchanges -/

/-- A pair written to a bank reads back there. -/
theorem wordIn_mapBank_setPair (x : Bool) (q : RegZz) (w : Word) (s : State) :
    wordIn x (s.mapBank x (·.setPair q w)) (.pair q) = w := by
  cases x <;> cases q <;> exact pair_hi_lo w

theorem setAlternate_completes (q : RegZz) (w : State → Word)
    (he : exec i s = perform {} (fun _ s => .ok (s.mapBank true (·.setPair q (w s)))) s) :
    WordSet i s false true (.pair q) (w s) :=
  completes_of_exec {} he (setPair_keeps true q (w s))
    ⟨wordIn_mapBank_setPair true q (w s) s, memKept_of_mem rfl⟩

theorem exAfAltAf_completes (s : State) :
    Completes .exAfAltAf s false none [.main .a, .mainF, .alt .a, .altF] fun t =>
      t.main.a = s.alt.a ∧ t.main.f = s.alt.f ∧ t.alt.a = s.main.a ∧ t.alt.f = s.main.f ∧ MemKept s t :=
  completes_of_exec {} rfl (exAfAltAf_keeps s)
    ⟨hi_pair _ _, lo_pair _ _, hi_pair _ _, lo_pair _ _, memKept_of_mem rfl⟩

theorem exx_completes (s : State) :
    Completes .exx s false none ([.b, .c, .d, .e, .h, .l].flatMap fun r => [.main r, .alt r]) fun t =>
      (∀ r, r ≠ .a → t.main.get r = s.alt.get r ∧ t.alt.get r = s.main.get r) ∧ MemKept s t := by
  refine completes_of_exec {} rfl (exx_keeps s) ⟨fun r hr => ?_, memKept_of_mem rfl⟩
  cases r with
  | a => exact absurd rfl hr
  | _ => exact ⟨rfl, rfl⟩

theorem exDeHl_completes (s : State) :
    Completes .exDeHl s false none ([.main .d, .main .e] ++ wordPieces s.altd (.pair .hl)) fun t =>
      wordIn false t (.pair .de) = wordIn s.altd s (.pair .hl) ∧
        wordIn s.altd t (.pair .hl) = wordIn false s (.pair .de) ∧ MemKept s t := by
  refine completes_of_exec { altd := true } rfl (exDeHl_keeps s.altd s) ?_
  cases h : s.altd <;> simp only [Marks.ctx, h]
  · exact ⟨pair_hi_lo _, pair_hi_lo _, memKept_of_mem rfl⟩
  · exact ⟨pair_hi_lo _, pair_hi_lo _, memKept_of_mem rfl⟩

theorem exAltDeHl_completes (s : State) :
    Completes .exAltDeHl s false none ([.alt .d, .alt .e] ++ wordPieces s.altd (.pair .hl)) fun t =>
      wordIn true t (.pair .de) = wordIn s.altd s (.pair .hl) ∧
        wordIn s.altd t (.pair .hl) = wordIn true s (.pair .de) ∧ MemKept s t := by
  refine completes_of_exec { altd := true } rfl (exAltDeHl_keeps s.altd s) ?_
  cases h : s.altd <;> simp only [Marks.ctx, h]
  · exact ⟨pair_hi_lo _, pair_hi_lo _, memKept_of_mem rfl⟩
  · exact ⟨pair_hi_lo _, pair_hi_lo _, memKept_of_mem rfl⟩

/-- Settles O38. -/
theorem bankTransfers : Obligations.BankTransfers := fun s =>
  ⟨fun da => ⟨setAlternate_completes (altPair da) State.bc rfl, setAlternate_completes (altPair da) State.de rfl⟩,
    exAfAltAf_completes s, exx_completes s, exDeHl_completes s, exAltDeHl_completes s⟩

/-! ### Jumps -/

theorem jump_completes {target : State → Word}
    (he : exec i s = perform {} (fun _ s => .ok { s with pc := target s }) s) :
    Jumps i s (target s) :=
  completes_of_exec {} he (keeps_pc _) ⟨rfl, memKept_of_mem rfl⟩

theorem jumpIf_completes {p : State → Bool} {target : State → Word}
    (he : exec i s = perform {} (jumpIf p target) s) :
    Jumps i s (if p s then target s else s.pc) := by
  refine completes_of_exec {} he (jumpIf_keeps (c := Marks.ctx {} s) (p := p) (a := target) rfl) ?_
  split
  · exact ⟨rfl, memKept_of_mem rfl⟩
  · exact ⟨rfl, memKept_of_mem rfl⟩

theorem condHolds_iff (f : Byte) (q : Cond) : condHolds f q = true ↔ condRef f q := by
  cases q <;> simp [condHolds, condRef]

theorem ccRef_eq_ccCond (q : Cc) : ccRef q = ccCond q := by cases q <;> rfl

/-- A relative target is the signed stored byte added to PC (46_control_misc.md R451). -/
theorem relTarget_eq_relRef (e : Byte) (s : State) : relTarget e s = relRef s e := by
  rw [relRef, BitVec.ofInt_add, BitVec.ofInt_natCast, BitVec.ofNat_toNat, BitVec.setWidth_eq]
  rfl

/-- A jump on a condition of the main F, as its two cases. -/
theorem condJump_completes {target : State → Word} {q : Cond} {a : Word} (ha : target s = a)
    (he : exec i s = perform {} (jumpIf (fun s => condHolds s.main.f q) target) s) :
    (condRef s.main.f q → Jumps i s a) ∧ (¬condRef s.main.f q → Jumps i s s.pc) := by
  have hj := jumpIf_completes he
  rw [ha] at hj
  constructor
  · intro h
    rwa [if_pos ((condHolds_iff _ _).2 h)] at hj
  · intro h
    rwa [if_neg fun hc => h ((condHolds_iff _ _).1 hc)] at hj

/-- One down, modulo 256. -/
theorem byte_sub_one (x : Byte) : x - 1 = BitVec.ofNat 8 (x.toNat + 255) := by bv_omega

theorem byte_sub_one_ne_zero (x : Byte) : (x - 1 != 0) = true ↔ x.toNat ≠ 1 := by
  rw [bne_iff_ne]
  constructor <;> intro h <;> bv_omega

/-- B, or B' under ALTD, one down. -/
def djnzStep (s : State) : State := dst8 ⟨s.altd, none⟩ .b (s.main.b - 1) s

theorem exec_djnzE (s : State) (e : Byte) :
    exec (.djnzE e) s = .next (complete { altd := true } s <|
      if (s.main.b - 1 != 0) = true then { djnzStep s with pc := relTarget e (djnzStep s) } else djnzStep s) := rfl

theorem djnzStep_keeps (s : State) : Keeps [regPiece s.altd .b] s (djnzStep s) := dst8_keeps ⟨s.altd, none⟩ .b _

theorem djnzStep_b (s : State) : (bankOf s.altd (djnzStep s)).b = BitVec.ofNat 8 (s.main.b.toNat + 255) := by
  rw [← byte_sub_one]
  unfold djnzStep
  cases s.altd <;> rfl

/-- The jump is taken where the new B is not zero, also under ALTD (log 30). -/
theorem djnzE_completes (s : State) (e : Byte) :
    Completes (.djnzE e) s false none [regPiece s.altd .b, .pc] fun t =>
      (bankOf s.altd t).b = BitVec.ofNat 8 (s.main.b.toNat + 255) ∧
        t.pc = (if s.main.b.toNat = 1 then s.pc else relRef s e) ∧ MemKept s t := by
  have hpc : (djnzStep s).pc = s.pc := dst8_pc ..
  have hmem : (djnzStep s).mem = s.mem := dst8_mem ..
  have he := exec_djnzE s e
  by_cases h1 : s.main.b.toNat = 1
  · rw [if_neg fun h => (byte_sub_one_ne_zero _).1 h h1] at he
    exact completes_of_exec { altd := true } he ((djnzStep_keeps s).mono (by simp))
      ⟨djnzStep_b s, by rw [if_pos h1]; exact hpc, memKept_of_mem hmem⟩
  · rw [if_pos ((byte_sub_one_ne_zero _).2 h1)] at he
    refine completes_of_exec { altd := true } he ((djnzStep_keeps s).trans (keeps_pc _))
      ⟨djnzStep_b s, ?_, memKept_of_mem hmem⟩
    rw [if_neg h1, ← relTarget_eq_relRef]
    show (djnzStep s).pc + sext16 e = s.pc + sext16 e
    rw [hpc]

/-- Settles O52. -/
theorem jumpTargets : Obligations.JumpTargets := by
  intro s
  refine ⟨fun mn => jump_completes (target := fun _ => mn) rfl, jump_completes (target := State.hl) rfl,
    jump_completes (target := State.ix) rfl, jump_completes (target := State.iy) rfl, fun e => ?_,
    fun f mn => condJump_completes (target := fun _ => mn) rfl rfl, fun cc e => ?_, djnzE_completes s⟩
  · rw [← relTarget_eq_relRef]
    exact jump_completes (target := relTarget e) rfl
  · rw [ccRef_eq_ccCond]
    exact condJump_completes (relTarget_eq_relRef e s) rfl

/-! ### Reset -/

/-- Settles O9. -/
theorem resetValues : Obligations.ResetValues := by
  refine ⟨rfl, rfl, rfl, rfl, rfl, ⟨rfl, rfl, rfl, rfl⟩, fun _ => rfl, fun r => ?_⟩
  have hlow : eligible r { State.reset with irq := [some r] } = false := by
    show decide (currentPriority 0xFF < r.prio.code) = false
    cases r.prio <;> decide
  show (if eligible r { State.reset with irq := [some r] } = true then some r else none) = none
  simp [hlow]

/-- Settles O10: memory is empty and every latch is clear. -/
theorem invAtReset : Obligations.InvAtReset := ⟨reset_wf, nofun, fun h => absurd rfl h, fun _ => rfl⟩

end Sys2Proof.Proofs
end

section
/-! PROOFS. Decoding the bytes of an instruction: all of them give the instruction back, fewer are too few to tell. -/

namespace Sys2Proof.Proofs

open Sys2Proof.Machine Sys2Proof.Claims

/-! ### The fields of an opcode byte -/

section Fields

variable (x : BitVec 2) (y z : BitVec 3)

theorem toNat_fields : (x ++ y ++ z).toNat = x.toNat * 64 + y.toNat * 8 + z.toNat := by
  rw [toNat_adjoin, toNat_adjoin]
  omega

theorem opX_fields : opX (x ++ y ++ z) = x.toNat := by
  have hx := x.isLt
  have hy := y.isLt
  have hz := z.isLt
  rw [opX, BitVec.extractLsb'_toNat, toNat_fields, Nat.shiftRight_eq_div_pow]
  omega

theorem opY_fields : opY (x ++ y ++ z) = y := by
  have hy := y.isLt
  have hz := z.isLt
  apply BitVec.eq_of_toNat_eq
  rw [opY, BitVec.extractLsb'_toNat, toNat_fields, Nat.shiftRight_eq_div_pow]
  omega

theorem opZ_fields : opZ (x ++ y ++ z) = z := by
  have hz := z.isLt
  apply BitVec.eq_of_toNat_eq
  rw [opZ, BitVec.extractLsb'_toNat, toNat_fields, Nat.shiftRight_eq_div_pow]
  omega

end Fields

theorem regOr_code (r : Reg8) (f : Reg8 → Form) (mem : Form) : regOr r.code f mem = f r := by cases r <;> rfl

/-! ### Operand bytes -/

/-- The operand bytes with which a form makes an instruction (30_encoding.md R117 to R120). -/
inductive Takes : Form → List Byte → Instr → Prop where
  | plain (i : Instr) : Takes (.plain i) [] i
  | byte (f : Byte → Instr) (b : Byte) : Takes (.byte f) [b] (f b)
  | byteByte (f : Byte → Byte → Instr) (b b' : Byte) : Takes (.byteByte f) [b, b'] (f b b')
  | word (f : Word → Instr) (mn : Word) : Takes (.word f) [lo mn, hi mn] (f mn)
  | wordByte (f : Word → Byte → Instr) (mn : Word) (x : Byte) : Takes (.wordByte f) [lo mn, hi mn, x] (f mn x)

variable {form : Form} {ops : List Byte} {i : Instr} {op : Byte}

/-- The form reads its operand bytes and nothing after them. -/
theorem Takes.read (h : Takes form ops i) (len : Nat) (rest : List Byte) :
    form.read len (ops ++ rest) = .ok i (len + ops.length) := by
  cases h <;> simp [Form.read, pair_hi_lo]

/-- Fewer operand bytes are too few. -/
theorem Takes.read_part (h : Takes form ops i) (len : Nat) {k : Nat} (hk : k < ops.length) :
    form.read len (ops.take k) = .truncated := by
  cases h with
  | plain => exact absurd hk (Nat.not_lt_zero k)
  | byte | byteByte | word | wordByte =>
    simp only [List.length_cons, List.length_nil] at hk
    interval_cases k <;> rfl

/-! ### Pages -/

/-- The bytes are those of one instruction: with anything after them they decode to it, and no fewer do. -/
structure Parses (bytes : List Byte) (i : Instr) : Prop where
  whole : ∀ rest, decode (bytes ++ rest) = .ok i bytes.length
  part : ∀ k, k < bytes.length → decode (bytes.take k) = .truncated

/-- The first bytes that select another page (30_encoding.md R102). -/
def pageBytes : List Byte := [0xCB#8, 0xED#8, 0xDD#8, 0xFD#8]

theorem decode_main (hop : op ∉ pageBytes) (rest : List Byte) : decode (op :: rest) = (mainForm op).read 1 rest := by
  simp only [pageBytes, List.mem_cons, List.not_mem_nil, or_false, not_or] at hop
  obtain ⟨hcb, hed, hdd, hfd⟩ := hop
  simp [decode, hcb, hed, hdd, hfd]

/-- The page bytes end in 011 and 101. -/
theorem not_pageByte (h3 : opZ op ≠ 3) (h5 : opZ op ≠ 5) : op ∉ pageBytes := by
  intro hop
  simp only [pageBytes, List.mem_cons, List.not_mem_nil, or_false] at hop
  obtain rfl | rfl | rfl | rfl := hop
  · exact h3 (by decide)
  · exact h5 (by decide)
  · exact h5 (by decide)
  · exact h5 (by decide)

/-- An instruction of the one-byte page. -/
theorem Parses.main (hop : op ∉ pageBytes) (h : Takes (mainForm op) ops i) : Parses (op :: ops) i where
  whole rest := by
    rw [List.cons_append, decode_main hop, h.read, List.length_cons, Nat.add_comm]
  part k hk := by
    cases k with
    | zero => rfl
    | succ k =>
      rw [List.take_succ_cons, decode_main hop]
      exact h.read_part 1 (Nat.lt_of_succ_lt_succ hk)

/-- An instruction of a page that a first byte selects and a second byte enters. -/
theorem Parses.page {first : Byte} (hnil : decode [first] = .truncated)
    (hread : ∀ rest, decode (first :: op :: rest) = form.read 2 rest) (h : Takes form ops i) :
    Parses (first :: op :: ops) i where
  whole rest := by
    rw [List.cons_append, List.cons_append, hread, h.read, List.length_cons, List.length_cons]
    congr 1
    omega
  part k hk := by
    match k with
    | 0 => rfl
    | 1 => exact hnil
    | k + 2 =>
      rw [List.take_succ_cons, List.take_succ_cons, hread]
      exact h.read_part 2 (Nat.lt_of_succ_lt_succ (Nat.lt_of_succ_lt_succ hk))

theorem Parses.cb (h : Takes (cbForm op) ops i) : Parses (0xCB#8 :: op :: ops) i := .page rfl (fun _ => rfl) h

theorem Parses.ed (h : Takes (edForm op) ops i) : Parses (0xED#8 :: op :: ops) i := .page rfl (fun _ => rfl) h

theorem Parses.dd (hop : op ≠ 0xCB) (h : Takes (ddForm op) ops i) : Parses (0xDD#8 :: op :: ops) i :=
  .page rfl (fun _ => if_neg hop) h

theorem Parses.fd (hop : op ≠ 0xCB) (h : Takes (fdForm op) ops i) : Parses (0xFD#8 :: op :: ops) i :=
  .page rfl (fun _ => if_neg hop) h

/-- An instruction after DD CB d, which puts its displacement before its last byte (30_encoding.md R105). -/
theorem Parses.ddCb {d : Byte} (h : ixCbForm d op = .plain i) : Parses [0xDD#8, 0xCB#8, d, op] i where
  whole rest := show (ixCbForm d op).read 4 [] = _ by rw [h]; rfl
  part k hk := by
    simp only [List.length_cons, List.length_nil] at hk
    interval_cases k <;> rfl

/-- The same after FD CB d. -/
theorem Parses.fdCb {d : Byte} (h : iyCbForm d op = .plain i) : Parses [0xFD#8, 0xCB#8, d, op] i where
  whole rest := show (iyCbForm d op).read 4 [] = _ by rw [h]; rfl
  part k hk := by
    simp only [List.length_cons, List.length_nil] at hk
    interval_cases k <;> rfl

theorem Takes.of_plain (h : form = .plain i) : Takes form [] i := h ▸ .plain i

/-- The five restarts (30_encoding.md R116). -/
theorem parses_rst {v : BitVec 3} (hv : restartCode v = true) : Parses (encode (.rstV v)) (.rstV v) := by
  simp only [restartCode, List.mem_cons, List.not_mem_nil, or_false, decide_eq_true_eq] at hv
  obtain rfl | rfl | rfl | rfl | rfl := hv <;> exact .main (by decide) (.plain _)

/-- The encoding of an instruction parses to it: an opcode on its page, by the values of its register fields, and its
operand bytes. -/
theorem encode_parses (i : Instr) (hi : i.wellFormed = true) : Parses (encode i) i := by
  cases i with
  | adcAAtHl | addAAtHl | andAtHl | cpAtHl | orAtHl | sbcAAtHl | subAtHl | xorAtHl | decAtHl | incAtHl | cpl | rla
  | rlca | rra | rrca | andHlDe | orHlDe | boolHl | mul | rlDe | rrDe | rrHl | ldAtBcA | ldAtDeA | ldAAtBc
  | ldAAtDe | ldSpHl | exAfAltAf | exDeHl | exAltDeHl | exx | altd | ioi | ioe | jpAtHl | ret | ccf | nop | scf =>
    exact .main (by decide) (.plain _)
  | adcAAtIxd | addAAtIxd | andAtIxd | cpAtIxd | orAtIxd | sbcAAtIxd | subAtIxd | xorAtIxd | decAtIxd | incAtIxd
  | ldAtHldHl | ldHlAtHld | ldAtSpnIx | ldIxAtSpn => exact .dd (by decide) (.byte _ _)
  | adcAAtIyd | addAAtIyd | andAtIyd | cpAtIyd | orAtIyd | sbcAAtIyd | subAtIyd | xorAtIyd | decAtIyd | incAtIyd
  | ldAtSpnIy | ldIyAtSpn | ldAtIydHl | ldHlAtIyd => exact .fd (by decide) (.byte _ _)
  | adcAN | addAN | andN | cpN | orN | sbcAN | subN | xorN | addSpD | ldAtHlN | ldAtSpnHl | ldHlAtSpn | ldAtIxdHl
  | ldHlAtIxd | djnzE | jrE => exact .main (by decide) (.byte _ _)
  | adcAR r | addAR r | andR r | cpR r | orR r | sbcAR r | subR r | xorR r | decR r | incR r | ldAtHlR r
  | ldRAtHl r => cases r <;> exact .main (by decide) (.plain _)
  | neg | ldpAtHlHl | ldpHlAtHl | ldAEir | ldAIir | ldAXpc | ldEirA | ldIirA | ldXpcA | exAtSpHl | popIp | pushIp
  | ldd | lddr | ldi | ldir | lret | reti | ipset0 | ipset1 | ipset2 | ipset3 | ipres => exact .ed (.plain _)
  | rlAtHl | rlcAtHl | rrAtHl | rrcAtHl | slaAtHl | sraAtHl | srlAtHl => exact .cb (.plain _)
  | rlAtIxd | rlcAtIxd | rrAtIxd | rrcAtIxd | slaAtIxd | sraAtIxd | srlAtIxd => exact .ddCb rfl
  | rlAtIyd | rlcAtIyd | rrAtIyd | rrcAtIyd | slaAtIyd | sraAtIyd | srlAtIyd => exact .fdCb rfl
  | rlR r | rlcR r | rrR r | rrcR r | slaR r | sraR r | srlR r => cases r <;> exact .cb (.plain _)
  | adcHlSs ss | sbcHlSs ss => cases ss <;> exact .ed (.plain _)
  | addHlSs ss | decSs ss | incSs ss => cases ss <;> exact .main (by decide) (.plain _)
  | addIxXx xx => cases xx <;> exact .dd (by decide) (.plain _)
  | addIyYy yy => cases yy <;> exact .fd (by decide) (.plain _)
  | andIxDe | orIxDe | boolIx | decIx | incIx | rrIx | ldpAtIxHl | ldpHlAtIx | ldHlIx | ldIxHl | ldSpIx | exAtSpIx
  | popIx | pushIx | jpAtIx => exact .dd (by decide) (.plain _)
  | andIyDe | orIyDe | boolIy | decIy | incIy | rrIy | ldpAtIyHl | ldpHlAtIy | ldHlIy | ldIyHl | ldSpIy | exAtSpIy
  | popIy | pushIy | jpAtIy => exact .fd (by decide) (.plain _)
  | ldIxMn | ldAtMnIx | ldIxAtMn | ldpAtMnIx | ldpIxAtMn => exact .dd (by decide) (.word _ _)
  | ldIyMn | ldAtMnIy | ldIyAtMn | ldpAtMnIy | ldpIyAtMn => exact .fd (by decide) (.word _ _)
  | ldDdMn dd => cases dd <;> exact .main (by decide) (.word _ _)
  | ldRN r => cases r <;> exact .main (by decide) (.byte _ _)
  | ldAtMnA | ldAAtMn | ldAtMnHl | ldHlAtMn | callMn | jpMn => exact .main (by decide) (.word _ _)
  | ldAtMnSs _ ss => cases ss <;> exact .ed (.word _ _)
  | ldDdAtMn dd => cases dd <;> exact .ed (.word _ _)
  | ldAtIxdN => exact .dd (by decide) (.byteByte _ _ _)
  | ldAtIxdR _ r | ldRAtIxd r => cases r <;> exact .dd (by decide) (.byte _ _)
  | ldAtIydN => exact .fd (by decide) (.byteByte _ _ _)
  | ldAtIydR _ r | ldRAtIyd r => cases r <;> exact .fd (by decide) (.byte _ _)
  | ldpAtMnHl | ldpHlAtMn => exact .ed (.word _ _)
  | ldAltDdBc da | ldAltDdDe da => cases da <;> exact .ed (.plain _)
  | ldRG r g => cases r <;> cases g <;> exact .main (by decide) (.plain _)
  | popZz zz | pushZz zz => cases zz <;> exact .main (by decide) (.plain _)
  | jpFMn f => cases f <;> exact .main (by decide) (.word _ _)
  | jrCcE cc => cases cc <;> exact .main (by decide) (.byte _ _)
  | lcallXMn | ljpXMn => exact .main (by decide) (.wordByte _ _ _)
  | retF f => cases f <;> exact .main (by decide) (.plain _)
  | bitBR | resBR | setBR =>
    exact .cb (.of_plain (by simp [cbForm, opX_fields, opY_fields, opZ_fields, regOr_code]))
  | bitBAtHl | resBAtHl | setBAtHl =>
    exact .cb (.of_plain (by simp [cbForm, opX_fields, opY_fields, opZ_fields, regOr, reg8?]))
  | bitBAtIxd | resBAtIxd | setBAtIxd => exact .ddCb (by simp [ixCbForm, opX_fields, opY_fields, opZ_fields])
  | bitBAtIyd | resBAtIyd | setBAtIyd => exact .fdCb (by simp [iyCbForm, opX_fields, opY_fields, opZ_fields])
  | rstV v => exact parses_rst hi

/-- An instruction has at most four bytes (30_encoding.md R100): each arm of `encode` lists them. -/
theorem encode_length_le (i : Instr) : (encode i).length ≤ 4 := by
  cases i <;> exact Nat.le_of_ble_eq_true rfl

end Sys2Proof.Proofs
end

section
/-! PROOFS. A step runs the instruction whose bytes stand at PC, and the conditions of JP, JR and RET from their bytes
to the flag they test. -/

namespace Sys2Proof.Proofs

open Sys2Proof.Machine Sys2Proof.Claims

variable {i : Instr} {s : State}

/-! ### Fetching -/

/-- Bytes that stand from an address on are fetched first. -/
theorem bytesFrom_append (m : Nat) : ∀ (bytes : List Byte) (a : Word),
    (∀ j (h : j < bytes.length), s.byteAt (a + BitVec.ofNat 16 j) = some bytes[j]) →
      bytesFrom s (bytes.length + m) a = bytes ++ bytesFrom s m (a + BitVec.ofNat 16 bytes.length)
  | [], a, _ => by simp
  | v :: l, a, h => by
    have hnext (j : Nat) : a + 1 + BitVec.ofNat 16 j = a + BitVec.ofNat 16 (j + 1) := by
      rw [BitVec.ofNat_add]
      ac_rfl
    have hv : s.byteAt a = some v := by simpa using h 0 (Nat.succ_pos _)
    have hl := bytesFrom_append m l (a + 1) fun j hj => by
      rw [hnext]
      exact h (j + 1) (Nat.succ_lt_succ hj)
    rw [hnext] at hl
    rw [List.length_cons, Nat.succ_add]
    simp only [bytesFrom, hv, hl, List.cons_append]

/-- The bytes of an instruction at PC are the first that are fetched. -/
theorem fetchBytes_of_stands (h : StandsAtPc i s) : ∃ rest, fetchBytes s = encode i ++ rest := by
  obtain ⟨m, hm⟩ := Nat.exists_eq_add_of_le (encode_length_le i)
  exact ⟨_, by rw [fetchBytes, hm]; exact bytesFrom_append m (encode i) s.pc h⟩

/-- Where a byte has no value, the fetch ends before it. -/
theorem fetchBytes_of_missing {bytes : List Byte} (hlen : bytes.length < 4)
    (h : ∀ j (h : j < bytes.length), s.byteAt (s.pc + BitVec.ofNat 16 j) = some bytes[j])
    (hnone : s.byteAt (s.pc + BitVec.ofNat 16 bytes.length) = none) : fetchBytes s = bytes := by
  obtain ⟨m, hm⟩ := Nat.exists_eq_add_of_lt hlen
  rw [fetchBytes, hm, Nat.add_assoc, bytesFrom_append (m + 1) bytes s.pc h]
  simp only [bytesFrom, hnone, List.append_nil]

/-! ### The step -/

theorem step_of_no_interrupt (h : interruptNow s = none) : step s = runInstruction (afterAsking s) := by
  unfold step
  rw [h]

theorem afterAsking_eq (s : State) : afterAsking s = { s with irq := if s.hold then s.irq else s.irq.tail } := by
  unfold afterAsking
  split <;> rfl

theorem runInstruction_of_stands (hi : i.wellFormed = true) (h : StandsAtPc i s) :
    runInstruction s = exec i (advance (encode i).length s) := by
  obtain ⟨rest, hrest⟩ := fetchBytes_of_stands h
  have hf : fetched s = .ok i (encode i).length := by
    rw [fetched, hrest]
    exact (encode_parses i hi).whole rest
  unfold runInstruction
  rw [hf]

theorem runInstruction_of_missing (hi : i.wellFormed = true) {k : Nat} (hk : k < (encode i).length)
    (h : ∀ j (h : j < (encode i).length), j < k → s.byteAt (s.pc + BitVec.ofNat 16 j) = some (encode i)[j])
    (hnone : s.byteAt (s.pc + BitVec.ofNat 16 k) = none) :
    runInstruction s = .fault (.unwrittenMemory (s.phys (s.pc + BitVec.ofNat 16 k))) := by
  have hlen : ((encode i).take k).length = k := List.length_take_of_le hk.le
  have hbytes : fetchBytes s = (encode i).take k := by
    refine fetchBytes_of_missing (by rw [hlen]; exact hk.trans_le (encode_length_le i)) (fun j hj => ?_) (by rwa [hlen])
    rw [List.getElem_take]
    exact h j _ (hlen ▸ hj)
  have hf : fetched s = .truncated := by
    rw [fetched, hbytes]
    exact (encode_parses i hi).part k hk
  unfold runInstruction
  rw [hf, hbytes, hlen]

/-- Settles O5. -/
theorem stepRunsDecoded : Obligations.StepRunsDecoded := by
  constructor
  · intro s i hi hnow h
    rw [step_of_no_interrupt hnow, afterAsking_eq]
    exact runInstruction_of_stands hi h
  · intro s i k hi hnow hk h hnone
    rw [step_of_no_interrupt hnow, afterAsking_eq]
    exact runInstruction_of_missing hi hk h hnone

/-! ### Conditions -/

/-- Each code of `f` tests its flag. -/
theorem condHolds_cond (k : BitVec 3) (f : Byte) : condHolds f (cond k) = codeTrue k.toNat f := by
  obtain ⟨n, hn⟩ := k
  interval_cases n <;> simp [cond, condHolds, codeTrue]

/-- The codes of `cc` are the first four of `f`. -/
theorem ccCond_cc {k : BitVec 3} (hk : k.toNat < 4) : ccCond (cc (k.setWidth 2)) = cond k := by
  obtain ⟨n, hn⟩ := k
  have hn4 : n < 4 := hk
  interval_cases n <;> rfl

theorem decode_jpFMn (k : BitVec 3) (n m : Byte) :
    decode [3#2 ++ k ++ 2#3, n, m] = .ok (.jpFMn (cond k) (pair m n)) 3 := by
  have hform : mainForm (3#2 ++ k ++ 2#3) = .word (.jpFMn (cond k)) := by
    simp [mainForm, mainForm3, opX_fields, opY_fields, opZ_fields]
  rw [decode_main (not_pageByte (by simp [opZ_fields]) (by simp [opZ_fields])), hform]
  rfl

theorem decode_retF (k : BitVec 3) : decode [3#2 ++ k ++ 0#3] = .ok (.retF (cond k)) 1 := by
  have hform : mainForm (3#2 ++ k ++ 0#3) = .plain (.retF (cond k)) := by
    simp [mainForm, mainForm3, opX_fields, opY_fields, opZ_fields]
  rw [decode_main (not_pageByte (by simp [opZ_fields]) (by simp [opZ_fields])), hform]
  rfl

theorem decode_jrCcE (q : BitVec 2) (e : Byte) : decode [1#3 ++ q ++ 0#3, e] = .ok (.jrCcE (cc q) e) 2 := by
  have hq : q = 0 ∨ q = 1 ∨ q = 2 ∨ q = 3 := by
    revert q
    decide
  obtain rfl | rfl | rfl | rfl := hq <;> rfl

/-- A jump on a condition goes to its target or to the next instruction. -/
theorem condJump_completes_ite {target : State → Word} {q : Cond} {a : Word} {p : Bool}
    (hp : condHolds s.main.f q = p) (ha : target s = a)
    (he : exec i s = perform {} (jumpIf (fun s => condHolds s.main.f q) target) s) :
    Jumps i s (if p then a else s.pc) := by
  subst hp ha
  exact jumpIf_completes he

theorem exec_retF_false {f : Cond} (h : condHolds s.main.f f = false) : exec (.retF f) s = .next (complete {} s s) := by
  show execRetF f s = _
  simp [execRetF, perform, h]

theorem exec_retF_true {f : Cond} (h : condHolds s.main.f f = true) : exec (.retF f) s = perform {} returnBody s := by
  show execRetF f s = _
  simp [execRetF, perform, h]

/-- A return pops PC and changes nothing else. -/
theorem return_completes {l h : Byte} (he : exec i s = perform {} returnBody s) (hl : s.byteAt s.sp = some l)
    (hh : s.byteAt (s.sp + 1) = some h) :
    Completes i s false none [.pc, .sp] fun t => t.pc = h ++ l ∧ t.sp = s.sp + 2 ∧ MemKept s t := by
  have hbody : returnBody (Marks.ctx {} s) s = .ok { s with sp := s.sp + 2, pc := pair h l } :=
    returnBody_ok.2 ⟨_, memRead16_ok.2 ⟨l, h, hl, hh, rfl⟩, rfl⟩
  exact completes_of_exec {} (he.trans (perform_next.2 ⟨_, hbody, rfl⟩)) ((returnBody_keeps hbody).mono (by simp))
    ⟨rfl, rfl, memKept_of_mem rfl⟩

/-- Settles O53. -/
theorem conditionCodes : Obligations.ConditionCodes := by
  intro s k n m e
  refine ⟨.jpFMn (cond k) (pair m n), .retF (cond k), decode_jpFMn k n m, decode_retF k,
    condJump_completes_ite (target := fun _ => pair m n) (condHolds_cond k _) rfl rfl, fun h => ?_,
    fun l h hl hh ht => ?_, fun hk => ⟨.jrCcE (cc (k.setWidth 2)) e, decode_jrCcE _ e, ?_⟩⟩
  · rw [← condHolds_cond] at h
    exact completes_of_exec {} (exec_retF_false h) .refl (memKept_of_mem rfl)
  · rw [← condHolds_cond] at ht
    exact return_completes (exec_retF_true ht) hl hh
  · exact condJump_completes_ite (by rw [ccCond_cc hk, condHolds_cond]) (relTarget_eq_relRef e s) rfl

end Sys2Proof.Proofs
end

section
/-! PROOFS. What an instruction may do to memory, said once for each constructor; from it and the life of the latches,
every step keeps the invariant. -/

namespace Sys2Proof.Proofs

open Sys2Proof.Machine Sys2Proof.Claims

variable {i : Instr} {b : Body} {c : Ctx} {s t u : State} {may may' : Prop} {m m' m'' : Memory} {sel sel' : Ctx → Prop}

/-! ### Memory after a number of byte stores -/

/-- The second memory comes from the first by byte stores at physical addresses, and by none at all unless `may`
holds. -/
inductive Stores (may : Prop) (m : Memory) : Memory → Prop
  | refl : Stores may m m
  | put {m' : Memory} (h : may) (p : PhysAddr) (v : Byte) : Stores may m m' → Stores may m (memPut p.toNat v m')

theorem Stores.of_eq (h : m' = m) : Stores may m m' := h ▸ .refl

theorem Stores.trans (h : Stores may m m') (h' : Stores may m' m'') : Stores may m m'' := by
  induction h' with
  | refl => exact h
  | put hm p v _ ih => exact .put hm p v ih

theorem Stores.mono (h : Stores may m m') (himp : may → may') : Stores may' m m' := by
  induction h with
  | refl => exact .refl
  | put hm p v _ ih => exact .put (himp hm) p v ih

theorem Stores.eq_of_not (h : Stores may m m') (hn : ¬may) : m' = m := by
  cases h with
  | refl => rfl
  | put hm => exact absurd hm hn

/-- Stores at physical addresses keep the canonical form. -/
theorem Stores.wf (h : Stores may m m') (hm : Memory.wf m) : Memory.wf m' := by
  induction h with
  | refl => exact hm
  | put _ p v _ ih => exact memPut_wf p.isLt v ih

/-! ### Operations -/

theorem physWrite_stores (h : may) (p : PhysAddr) (v : Byte) (s : State) : Stores may s.mem (physWrite p v s).mem :=
  .put h p v .refl

theorem memWrite_stores (h : may) (a : Word) (v : Byte) (s : State) : Stores may s.mem (memWrite a v s).mem :=
  physWrite_stores h _ v s

theorem memWrite16_stores (h : may) (a w : Word) (s : State) : Stores may s.mem (memWrite16 a w s).mem :=
  (memWrite_stores h a (lo w) s).trans (memWrite_stores h (a + 1) (hi w) _)

theorem physWrite16_stores (h : may) (p : PhysAddr) (w : Word) (s : State) :
    Stores may s.mem (physWrite16 p w s).mem :=
  (physWrite_stores h p (lo w) s).trans (physWrite_stores h (ldpNext p) (hi w) _)

theorem push8_stores (h : may) (v : Byte) (s : State) : Stores may s.mem (push8 v s).mem :=
  memWrite_stores h (s.sp - 1) v s

theorem push16_stores (h : may) (w : Word) (s : State) : Stores may s.mem (push16 w s).mem :=
  (memWrite_stores h (s.sp - 1) (hi w) s).trans (memWrite_stores h (s.sp - 2) (lo w) _)

/-- A destination access stores to memory only without an I/O selection (20_memory.md R77). -/
theorem dstWrite_stores (c : Ctx) (a : Word) (v : Byte) (s : State) :
    Stores (c.io = none) s.mem (dstWrite c a v s).mem := by
  rcases dstWrite_shape c a v s with ⟨hc, h⟩ | ⟨x, -, h⟩ <;> rw [h]
  · exact memWrite_stores hc a v s
  · exact .refl

theorem dstWrite16_stores (c : Ctx) (a w : Word) (s : State) :
    Stores (c.io = none) s.mem (dstWrite16 c a w s).mem :=
  (dstWrite_stores c a (lo w) s).trans (dstWrite_stores c (a + 1) (hi w) _)

theorem srcRead_mem {a : Word} {v : Byte} (h : srcRead c a s = .ok (v, u)) : u.mem = s.mem := by
  obtain ⟨-, _, _, _, rfl⟩ := srcRead_shape h
  rfl

theorem srcRead16_mem {a w : Word} (h : srcRead16 c a s = .ok (w, u)) : u.mem = s.mem := by
  obtain ⟨-, _, _, _, rfl⟩ := srcRead16_shape h
  rfl

theorem byteSrc_mem {o : ByteSrc} {v : Byte} (h : o.read c s = .ok (v, u)) : u.mem = s.mem := by
  rcases byteSrc_ok.1 h with ⟨q, -, e⟩ | ⟨n, -, e⟩ | ⟨m, -, h⟩
  · cases e
    rfl
  · cases e
    rfl
  · exact srcRead_mem h

theorem pop8_mem {v : Byte} (h : pop8 s = .ok (v, u)) : u.mem = s.mem := by
  obtain ⟨-, rfl⟩ := pop8_ok.1 h
  rfl

theorem pop16_mem {w : Word} (h : pop16 s = .ok (w, u)) : u.mem = s.mem := by
  obtain ⟨-, rfl⟩ := pop16_ok.1 h
  rfl

/-! ### Bodies -/

/-- A body stores to memory only under the selections that `sel` holds of. -/
def StoresIf (sel : Ctx → Prop) (b : Body) : Prop :=
  ∀ (c : Ctx) (s u : State), b c s = .ok u → Stores (sel c) s.mem u.mem

/-- No selection: a body that leaves memory alone. -/
def Never : Ctx → Prop := fun _ => False

/-- The selections under which a destination access goes to memory. -/
def OutsideIo : Ctx → Prop := fun c => c.io = none

/-- Every selection: a body that stores to memory whatever the latches are. -/
def Always : Ctx → Prop := fun _ => True

theorem StoresIf.of_mem (h : ∀ {c s u}, b c s = .ok u → u.mem = s.mem) : StoresIf Never b := fun _ _ _ hu =>
  .of_eq (h hu)

theorem StoresIf.of_ok {g : Ctx → State → State} (h : ∀ c s, Stores (sel c) s.mem (g c s).mem) :
    StoresIf sel fun c s => .ok (g c s) := fun c s _ hu => ok_eq.1 hu ▸ h c s

/-- A body that answers a state with the memory it was given. -/
theorem StoresIf.of_kept {g : Ctx → State → State} (h : ∀ c s, (g c s).mem = s.mem) :
    StoresIf Never fun c s => .ok (g c s) := .of_ok fun c s => .of_eq (h c s)

theorem setByte_stores {r : Reg8} {v : State → Byte} : StoresIf Never (setByte r v) :=
  .of_kept fun c s => dst8_mem s c r _

theorem setWord_stores {r : WordReg} {w : State → Word} : StoresIf Never (setWord r w) :=
  .of_kept fun c s => wordDst_mem s c r _

/-- The 16-bit arithmetic, logic and rotates too, which are this body. -/
theorem setWordFlags_stores {r : WordReg} {w : State → Word} {f : State → FlagWrite} :
    StoresIf Never (setWordFlags r w f) := .of_kept fun c s => by rw [setFlags_mem, wordDst_mem]

/-- The shifts and rotates of a register too, which are this body. -/
theorem modifyReg_stores {r : Reg8} {g : Byte → Byte} {f : Byte → FlagWrite} : StoresIf Never (modifyReg r g f) :=
  .of_kept fun c s => by rw [setFlags_mem, dst8_mem]

theorem shiftReg_stores {op : ShiftOp} {r : Reg8} : StoresIf Never (shiftReg op r) := fun _ _ _ h =>
  modifyReg_stores _ _ _ h

theorem rotateA_stores {op : ShiftOp} : StoresIf Never (rotateA op) := fun _ _ _ h => modifyReg_stores _ _ _ h

theorem jumpIf_stores {p : State → Bool} {a : State → Word} : StoresIf Never (jumpIf p a) := .of_kept fun _ s => by
  split <;> rfl

theorem ipSet_stores {p : BitVec 2} : StoresIf Never (ipSet p) := .of_kept fun _ _ => rfl

theorem loadByte_stores {r : Reg8} {m : MemAt} : StoresIf Never (loadByte r m) := .of_mem fun h => by
  obtain ⟨v, u, hr, rfl⟩ := loadByte_ok.1 h
  rw [dst8_mem, srcRead_mem hr]

theorem loadWord_stores {r : WordReg} {m : MemAt} : StoresIf Never (loadWord r m) := .of_mem fun h => by
  obtain ⟨w, u, hr, rfl⟩ := loadWord_ok.1 h
  rw [wordDst_mem, srcRead16_mem hr]

theorem loadFrame_stores {r : WordReg} {n : Byte} : StoresIf Never (loadFrame r n) := .of_mem fun h => by
  obtain ⟨w, -, rfl⟩ := loadFrame_ok.1 h
  rw [wordDst_mem]

theorem loadPhys_stores {r : WordReg} {a : State → Word} : StoresIf Never (loadPhys r a) := .of_mem fun h => by
  obtain ⟨w, -, rfl⟩ := loadPhys_ok.1 h
  rw [wordDst_mem]

theorem popWord_stores {r : WordReg} : StoresIf Never (popWord r) := .of_mem fun h => by
  obtain ⟨w, -, rfl⟩ := popWord_ok.1 h
  rw [wordDst_mem]

theorem returnBody_stores : StoresIf Never returnBody := .of_mem fun h => by
  obtain ⟨w, -, rfl⟩ := returnBody_ok.1 h
  rfl

theorem alu_stores {op : AluOp} {o : ByteSrc} : StoresIf Never (alu op o) := .of_mem fun h => by
  obtain ⟨v, u, hr, rfl⟩ := alu_ok.1 h
  rw [setFlags_mem]
  split
  · exact byteSrc_mem hr
  · rw [dst8_mem, byteSrc_mem hr]

theorem testBit_stores {q : BitVec 3} {o : ByteSrc} : StoresIf Never (testBit q o) := .of_mem fun h => by
  obtain ⟨v, u, hr, rfl⟩ := testBit_ok.1 h
  rw [setFlags_mem, byteSrc_mem hr]

theorem storeByte_stores {m : MemAt} {v : State → Byte} : StoresIf OutsideIo (storeByte m v) :=
  .of_ok fun c s => dstWrite_stores c _ _ s

theorem storeWord_stores {m : MemAt} {r : WordReg} : StoresIf OutsideIo (storeWord m r) :=
  .of_ok fun c s => dstWrite16_stores c _ _ s

theorem modifyMem_stores {m : MemAt} {g : Byte → Byte} {f : Byte → FlagWrite} :
    StoresIf OutsideIo (modifyMem m g f) := fun c s t h => by
  obtain ⟨v, u, hr, rfl⟩ := modifyMem_ok.1 h
  rw [setFlags_mem, ← srcRead_mem hr]
  exact dstWrite_stores c _ _ u

theorem shiftMem_stores {op : ShiftOp} {m : MemAt} : StoresIf OutsideIo (shiftMem op m) := fun _ _ _ h =>
  modifyMem_stores _ _ _ h

theorem blockOnce_stores {d : Word} : StoresIf OutsideIo (blockOnce d) := fun c s t h => by
  obtain ⟨v, -, rfl⟩ := blockOnce_ok.1 h
  exact dstWrite_stores c s.de v s

theorem blockLoop_stores {d : Word} : ∀ n, StoresIf OutsideIo (blockLoop d n)
  | 0 => fun _ _ _ h => .of_eq (congrArg State.mem (ok_eq.1 h))
  | n + 1 => fun c s t h => by
    obtain ⟨u, h1, h2⟩ := blockLoop_succ_ok.1 h
    exact (blockOnce_stores c s u h1).trans (blockLoop_stores n c u t h2)

/-- The number of bytes of LDIR and LDDR depends on the state. -/
theorem blockRepeat_stores {d : Word} {n : State → Nat} : StoresIf OutsideIo fun c s => blockLoop d (n s) c s :=
  fun c s => blockLoop_stores (n s) c s

theorem storeFrame_stores {n : Byte} {r : WordReg} : StoresIf Always (storeFrame n r) :=
  .of_ok fun _ s => memWrite16_stores trivial _ _ s

theorem storePhys_stores {a : State → Word} {r : WordReg} : StoresIf Always (storePhys a r) :=
  .of_ok fun _ s => physWrite16_stores trivial _ _ s

theorem exchangeTop_stores {r : WordReg} : StoresIf Always (exchangeTop r) := fun c s t h => by
  obtain ⟨w, -, rfl⟩ := exchangeTop_ok.1 h
  rw [wordDst_mem]
  exact memWrite16_stores trivial _ _ s

theorem pushWord_stores {r : WordReg} : StoresIf Always (pushWord r) := .of_ok fun _ s => push16_stores trivial _ s

theorem callTo_stores {a : State → Word} : StoresIf Always (callTo a) := .of_ok fun _ s => push16_stores trivial s.pc s

/-! ### Instructions -/

/-- Whether an instruction may store to memory under a selection: one that stores does, unless it is marked and the
selection sends its accesses to I/O (20_memory.md R77, R79). -/
def MayStore (c : Ctx) (i : Instr) : Prop := storesBytes i = true ∧ (ioMarked i = true → c.io = none)

theorem StoresIf.mono (hb : StoresIf sel b) (himp : ∀ c, sel c → sel' c) : StoresIf sel' b := fun c s u h =>
  (hb c s u h).mono (himp c)

theorem StoresIf.never (hb : StoresIf Never b) : StoresIf sel b := hb.mono fun _ => False.elim

theorem StoresIf.marked (hb : StoresIf OutsideIo b) (hs : storesBytes i = true) : StoresIf (MayStore · i) b :=
  hb.mono fun _ hio => ⟨hs, fun _ => hio⟩

theorem StoresIf.unmarked (hb : StoresIf Always b) (hs : storesBytes i = true) (hm : ioMarked i = false) :
    StoresIf (MayStore · i) b :=
  hb.mono fun _ _ => ⟨hs, fun hm' => absurd (hm.symm.trans hm') Bool.false_ne_true⟩

/-- An instruction executes a body under its marks (where ALTD and a destination SP do not meet), and the body stores
only where the instruction may. `exists_runs` does not say which body it is, so that this is its counterpart for
memory. -/
structure RunsStoring (i : Instr) (b : Body) : Prop where
  exec_eq : ∀ s, exec i s =
    if destinationSp i = true ∧ s.altd = true then .refused .altdSp else perform (marksOf i) b s
  stores : StoresIf (MayStore · i) b

theorem runsStoring_retF (f : Cond) : ∃ b, RunsStoring (.retF f) b :=
  ⟨_, fun _ => rfl, .never fun c s u h => by
    split at h
    · exact returnBody_stores c s u h
    · exact .of_eq (congrArg State.mem (ok_eq.1 h))⟩

theorem runsStoring_reti : ∃ b, RunsStoring .reti b :=
  ⟨_, fun _ => rfl, .never <| .of_mem fun h => by
    obtain ⟨v, w, -, -, rfl⟩ := returnFromInterrupt_ok.1 h
    rfl⟩

theorem runsStoring_lret : ∃ b, RunsStoring .lret b :=
  ⟨_, fun _ => rfl, .never <| .of_mem fun h => by
    obtain ⟨⟨w, u⟩, hw, h⟩ := bind_ok.1 h
    obtain ⟨⟨v, u'⟩, hv, h⟩ := bind_ok.1 h
    rw [ok_eq.1 h]
    exact (pop8_mem hv).trans (pop16_mem hw)⟩

theorem runsStoring_popIp : ∃ b, RunsStoring .popIp b :=
  ⟨_, fun _ => rfl, .never <| .of_mem fun {_ s _} h => by
    obtain ⟨⟨v, u⟩, hv, h⟩ := bind_ok.1 h
    rw [ok_eq.1 h]
    show u.mem = s.mem
    exact pop8_mem hv⟩

theorem runsStoring_lcallXMn (x : Byte) (mn : Word) : ∃ b, RunsStoring (.lcallXMn x mn) b :=
  ⟨_, fun _ => rfl, .unmarked (.of_ok fun _ s =>
    (push8_stores trivial s.xpc s).trans (push16_stores trivial s.pc (push8 s.xpc s))) rfl rfl⟩

/-- Every instruction but the latch setters executes a body that stores only if the instruction is listed as one that
does, and under no I/O selection if it is marked. -/
theorem exists_runsStoring (i : Instr) (hi : setsLatch i = false) : ∃ b, RunsStoring i b := by
  cases i with
  | adcAAtHl | adcAAtIxd | adcAAtIyd | adcAN | adcAR | addAAtHl | addAAtIxd | addAAtIyd | addAN | addAR | andAtHl
  | andAtIxd | andAtIyd | andN | andR | cpAtHl | cpAtIxd | cpAtIyd | cpN | cpR | orAtHl | orAtIxd | orAtIyd | orN | orR
  | sbcAAtHl | sbcAAtIxd | sbcAAtIyd | sbcAN | sbcAR | subAtHl | subAtIxd | subAtIyd | subN | subR | xorAtHl | xorAtIxd
  | xorAtIyd | xorN | xorR => exact ⟨_, fun _ => rfl, alu_stores.never⟩
  | bitBAtHl | bitBAtIxd | bitBAtIyd | bitBR => exact ⟨_, fun _ => rfl, testBit_stores.never⟩
  | decR | incR => exact ⟨_, fun _ => rfl, modifyReg_stores.never⟩
  | rla | rlca | rra | rrca => exact ⟨_, fun _ => rfl, rotateA_stores.never⟩
  | rlR | rlcR | rrR | rrcR | slaR | sraR | srlR => exact ⟨_, fun _ => rfl, shiftReg_stores.never⟩
  | cpl | resBR | setBR | ldRN | ldAXpc | ldRG => exact ⟨_, fun _ => rfl, setByte_stores.never⟩
  | adcHlSs | addHlSs | sbcHlSs | addIxXx | addIyYy | addSpD | andHlDe | andIxDe | andIyDe | orHlDe | orIxDe | orIyDe
  | boolHl | boolIx | boolIy | rlDe | rrDe | rrHl | rrIx | rrIy => exact ⟨_, fun _ => rfl, setWordFlags_stores.never⟩
  | decIx | decIy | incIx | incIy | ldIxMn | ldIyMn | ldHlIx | ldHlIy | ldIxHl | ldIyHl | ldSpHl | ldSpIx | ldSpIy =>
    exact ⟨_, fun _ => rfl, setWord_stores.never⟩
  | decSs r | incSs r | ldDdMn r => exact ⟨_, withAlternate_ss r _, setWord_stores.never⟩
  | ldDdAtMn r => exact ⟨_, withAlternate_ss r _, loadWord_stores.never⟩
  | ldAAtMn | ldRAtHl | ldAAtBc | ldAAtDe | ldRAtIxd | ldRAtIyd => exact ⟨_, fun _ => rfl, loadByte_stores.never⟩
  | ldHlAtMn | ldIxAtMn | ldIyAtMn | ldHlAtHld | ldHlAtIxd | ldHlAtIyd =>
    exact ⟨_, fun _ => rfl, loadWord_stores.never⟩
  | ldHlAtSpn | ldIxAtSpn | ldIyAtSpn => exact ⟨_, fun _ => rfl, loadFrame_stores.never⟩
  | ldpHlAtHl | ldpHlAtIx | ldpHlAtIy | ldpHlAtMn | ldpIxAtMn | ldpIyAtMn =>
    exact ⟨_, fun _ => rfl, loadPhys_stores.never⟩
  | popIx | popIy | popZz => exact ⟨_, fun _ => rfl, popWord_stores.never⟩
  | jpFMn | jrCcE => exact ⟨_, fun _ => rfl, jumpIf_stores.never⟩
  | ipset0 | ipset1 | ipset2 | ipset3 => exact ⟨_, fun _ => rfl, ipSet_stores.never⟩
  | ret => exact ⟨_, fun _ => rfl, returnBody_stores.never⟩
  | retF f => exact runsStoring_retF f
  | reti => exact runsStoring_reti
  | lret => exact runsStoring_lret
  | popIp => exact runsStoring_popIp
  | jpAtHl | jpAtIx | jpAtIy | jpMn | jrE | ljpXMn | ipres | ldXpcA | ldIirA | ldEirA | nop | exAfAltAf | exx
  | ldAltDdBc | ldAltDdDe => exact ⟨_, fun _ => rfl, .never (.of_kept fun _ _ => rfl)⟩
  | neg | ldAEir | ldAIir =>
    exact ⟨_, fun _ => rfl, .never (.of_kept fun _ _ => by rw [setFlags_mem, dst8_mem])⟩
  | ccf | scf => exact ⟨_, fun _ => rfl, .never (.of_kept fun _ _ => setFlags_mem ..)⟩
  | mul => exact ⟨_, fun _ => rfl, .never (.of_kept fun _ _ => by rw [wordDst_mem, wordDst_mem])⟩
  | exDeHl | exAltDeHl => exact ⟨_, fun _ => rfl, .never (.of_kept fun _ _ => by split <;> rfl)⟩
  | djnzE =>
    exact ⟨_, fun _ => rfl, .never (.of_kept fun c s => by split <;> exact dst8_mem s c .b _)⟩
  | ldAtMnA | ldAtBcA | ldAtDeA | ldAtHlN | ldAtHlR | ldAtIxdN | ldAtIxdR | ldAtIydN | ldAtIydR =>
    exact ⟨_, fun _ => rfl, storeByte_stores.marked rfl⟩
  | ldAtMnHl | ldAtMnIx | ldAtMnIy | ldAtMnSs | ldAtHldHl | ldAtIxdHl | ldAtIydHl =>
    exact ⟨_, fun _ => rfl, storeWord_stores.marked rfl⟩
  | decAtHl | decAtIxd | decAtIyd | incAtHl | incAtIxd | incAtIyd | resBAtHl | resBAtIxd | resBAtIyd | setBAtHl
  | setBAtIxd | setBAtIyd => exact ⟨_, fun _ => rfl, modifyMem_stores.marked rfl⟩
  | rlAtHl | rlAtIxd | rlAtIyd | rlcAtHl | rlcAtIxd | rlcAtIyd | rrAtHl | rrAtIxd | rrAtIyd | rrcAtHl | rrcAtIxd
  | rrcAtIyd | slaAtHl | slaAtIxd | slaAtIyd | sraAtHl | sraAtIxd | sraAtIyd | srlAtHl | srlAtIxd | srlAtIyd =>
    exact ⟨_, fun _ => rfl, shiftMem_stores.marked rfl⟩
  | ldd | ldi => exact ⟨_, fun _ => rfl, blockOnce_stores.marked rfl⟩
  | lddr | ldir => exact ⟨_, fun _ => rfl, blockRepeat_stores.marked rfl⟩
  | ldAtSpnHl | ldAtSpnIx | ldAtSpnIy => exact ⟨_, fun _ => rfl, storeFrame_stores.unmarked rfl rfl⟩
  | ldpAtHlHl | ldpAtIxHl | ldpAtIyHl | ldpAtMnHl | ldpAtMnIx | ldpAtMnIy =>
    exact ⟨_, fun _ => rfl, storePhys_stores.unmarked rfl rfl⟩
  | exAtSpHl | exAtSpIx | exAtSpIy => exact ⟨_, fun _ => rfl, exchangeTop_stores.unmarked rfl rfl⟩
  | pushIx | pushIy | pushZz => exact ⟨_, fun _ => rfl, pushWord_stores.unmarked rfl rfl⟩
  | pushIp => exact ⟨_, fun _ => rfl, .unmarked (.of_ok fun _ s => push8_stores trivial s.ip s) rfl rfl⟩
  | callMn | rstV => exact ⟨_, fun _ => rfl, callTo_stores.unmarked rfl rfl⟩
  | lcallXMn x mn => exact runsStoring_lcallXMn x mn
  | altd | ioi | ioe => exact absurd hi (by decide)

/-- Every instruction changes memory by byte stores only, and by none unless it may store. -/
theorem exec_stores (h : exec i s = .next t) : Stores (MayStore ((marksOf i).ctx s) i) s.mem t.mem := by
  cases hi : setsLatch i with
  | false =>
    obtain ⟨b, hr⟩ := exists_runsStoring i hi
    rw [hr.exec_eq] at h
    split at h
    · cases h
    · obtain ⟨u, hu, rfl⟩ := perform_next.1 h
      exact hr.stores _ s u hu
  | true =>
    obtain ⟨k, rfl⟩ := exec_setsLatch hi h
    exact .refl

/-- What may not store leaves memory as it was. -/
theorem exec_mem (h : exec i s = .next t) (hn : ¬MayStore ((marksOf i).ctx s) i) : t.mem = s.mem :=
  (exec_stores h).eq_of_not hn

/-! ### The invariant -/

/-- Every instruction leaves the latches in agreement: a latch setter sets `hold`, any other one lets altd and io go. -/
theorem exec_latchesAgree (hs : LatchesAgree s) (h : exec i s = .next t) : LatchesAgree t := by
  cases hi : setsLatch i with
  | false =>
    obtain ⟨ha, hio, -, -⟩ := exec_latches hi h
    simp [LatchesAgree, ha, hio]
  | true =>
    cases i with
    | altd =>
      obtain ⟨-, -, hbug⟩ := hs
      cases h
      exact ⟨fun _ => rfl, fun _ => rfl, hbug⟩
    | ioi | ioe =>
      obtain ⟨-, rfl⟩ := selectIo_next.1 h
      exact ⟨fun _ => rfl, fun _ => rfl, fun _ => rfl⟩
    | _ => exact absurd hi Bool.false_ne_true

theorem exec_inv (hs : Inv s) (h : exec i s = .next t) : Inv t :=
  ⟨(exec_stores h).wf hs.1, exec_latchesAgree hs.2 h⟩

/-- An interrupt entry changes no latch. -/
theorem takeInterrupt_inv (r : IrqRequest) (hs : Inv s) : Inv (takeInterrupt r s) := ⟨takeInterrupt_wf r hs.1, hs.2⟩

theorem afterAsking_inv (hs : Inv s) : Inv (afterAsking s) := afterAsking_eq s ▸ hs

theorem advance_inv (len : Nat) (hs : Inv s) : Inv (advance len s) := hs

/-- Settles O11: a step is an interrupt entry or an instruction, and both keep the invariant. -/
theorem invKept : Obligations.InvKept := by
  intro s t hs h
  obtain ⟨r, -, rfl⟩ | ⟨-, i, len, -, h⟩ := step_next.1 h
  · exact takeInterrupt_inv r (afterAsking_inv hs)
  · exact exec_inv (advance_inv len (afterAsking_inv hs)) h

/-! ### I/O accesses -/

/-- Without a mark, or without a selection for it, an instruction's accesses go to memory (45_prefix_block.md R434). -/
theorem ctx_io_eq_none (h : ioMarked i = false ∨ s.io = none ∧ (oneByteHl i = true → s.iobug = none)) :
    ((marksOf i).ctx s).io = none := by
  obtain h | ⟨hio, hbug⟩ := h
  · exact ctx_io_of_unmarked h
  · cases hb : oneByteHl i with
    | false => simp [Marks.ctx, marksOf, hio, hb]
    | true => simp [Marks.ctx, marksOf, hio, hb, hbug hb]

/-- Settles O18: what an I/O access may change is open to an instruction only under an I/O selection. -/
theorem ioOnlyMarked : Obligations.IoOnlyMarked := by
  intro i s t h hsel
  have hio := ctx_io_eq_none hsel
  have hclosed : ¬((marksOf i).ctx s).io ≠ none := not_not.2 hio
  exact ⟨exec_same h (p := .ioTrace) hclosed, exec_same h (p := .ioIn) hclosed, exec_same h (p := .ioDraws) hclosed,
    exec_same h (p := .mmu) fun hm => hclosed hm.1, exec_same h (p := .mmuIn) fun hm => hclosed hm.1⟩

end Sys2Proof.Proofs
end

section
/-! PROOFS. Physical addresses: the translation of logical ones, and the LDP forms that need none. -/

namespace Sys2Proof.Proofs

open Sys2Proof.Machine Sys2Proof.Claims

variable {i : Instr} {s : State}

/-! ### Translation -/

theorem phys_window {a : Word} (h : 0xE000 ≤ a.toNat) :
    (s.phys a).toNat = (a.toNat + s.xpc.toNat * 0x1000) % 2 ^ 20 := by
  have hwin : 0xE000#16 ≤ a := h
  simp only [State.phys, Machine.translate, if_pos hwin]
  simp

/-- At launch the MMU state maps an address below the window to itself. -/
theorem phys_below {a : Word} (h : a.toNat < 0xE000) (hmmu : s.mmu.token = 0) : (s.phys a).toNat = a.toNat := by
  have hwin : ¬0xE000#16 ≤ a := Nat.not_le.2 h
  simp only [State.phys, Machine.translate, if_neg hwin, if_pos hmmu]
  exact (BitVec.toNat_setWidth 20 a).trans (Nat.mod_eq_of_lt (by omega))

/-- Settles O59, by the two branches of `translate` it speaks of. -/
theorem windowTranslation : Obligations.WindowTranslation := fun _ =>
  ⟨fun _ h => phys_window h, fun _ h hmmu => phys_below h (congrArg MmuState.token hmmu)⟩

/-! ### Word registers and pairs of bytes -/

/-- A word register read is its value in the main bank. -/
theorem read_eq_wordIn (r : WordReg) (s : State) : r.read s = wordIn false s r := by
  rcases r with (_ | _ | _ | _) | _ | _ | _ <;> rfl

/-- A word register written reads back in the bank it was written to. -/
theorem wordIn_dst (c : Ctx) (r : WordReg) (w : Word) (s : State) : wordIn c.alt (r.dst c w s) r = w := by
  cases r with
  | pair q => exact wordIn_mapBank_setPair c.alt q w s
  | ix | iy | sp => rfl

/-- Two byte stores, one after the other. -/
theorem twoBytes_physWrite (p q : PhysAddr) (v w : Byte) (s : State) :
    TwoBytes p q v w s (physWrite q w (physWrite p v s)) := by
  refine ⟨physByte_physWrite_same q w, fun hpq => ?_, fun r hr => ?_⟩
  · rw [physByte_physWrite_other hpq, physByte_physWrite_same]
  · obtain ⟨hp, hq⟩ : r ≠ p ∧ r ≠ q := by simpa using hr
    rw [physByte_physWrite_other hq, physByte_physWrite_other hp]

/-! ### LDP -/

/-- A[3:0] before a 16-bit address, as a number (20_memory.md R75). -/
theorem ldpAddr_eq_ldpRef (s : State) (a : Word) : ldpAddr s.main.a a = ldpRef s a := by
  apply BitVec.eq_of_toNat_eq
  simp only [ldpAddr, ldpRef, toNat_adjoin, BitVec.extractLsb'_toNat, BitVec.toNat_ofNat]
  omega

theorem loadPhys_completes {r : WordReg} {a : State → Word} (he : exec i s = perform {} (loadPhys r a) s) :
    LoadsTwo i s false (ldpRef s (a s)) (ldpRef s (a s) + 1) r := by
  intro l h hl hh
  rw [← ldpAddr_eq_ldpRef] at hl hh
  have hbody : loadPhys r a (Marks.ctx {} s) s = .ok (r.dst (Marks.ctx {} s) (pair h l) s) :=
    loadPhys_ok.2 ⟨_, physRead16_ok.2 ⟨l, h, hl, hh, rfl⟩, rfl⟩
  exact completes_of_exec {} (he.trans (perform_next.2 ⟨_, hbody, rfl⟩)) (loadPhys_keeps hbody)
    ⟨wordIn_dst (Marks.ctx {} s) r _ s, memKept_of_mem (wordDst_mem ..)⟩

theorem storePhys_completes {r : WordReg} {a : State → Word} (he : exec i s = perform {} (storePhys a r) s) :
    StoresTwo i s (ldpRef s (a s)) (ldpRef s (a s) + 1) (wordIn false s r) := by
  rw [← ldpAddr_eq_ldpRef, ← read_eq_wordIn]
  exact completes_of_exec {} he (physWrite16_keeps _ _) (twoBytes_physWrite _ _ (lo (r.read s)) (hi (r.read s)) s)

/-- Settles O44: each form loads or stores through the same body, whose 16-bit address differs. -/
theorem physicalAccess : Obligations.PhysicalAccess := by
  intro s
  simp only [List.forall_mem_cons, List.not_mem_nil, false_imp_iff, implies_true, and_true]
  exact ⟨⟨⟨loadPhys_completes (a := State.hl) rfl, storePhys_completes (a := State.hl) rfl⟩,
      ⟨loadPhys_completes (a := State.ix) rfl, storePhys_completes (a := State.ix) rfl⟩,
      ⟨loadPhys_completes (a := State.iy) rfl, storePhys_completes (a := State.iy) rfl⟩⟩,
    fun mn => ⟨⟨loadPhys_completes (a := fun _ => mn) rfl, storePhys_completes (a := fun _ => mn) rfl⟩,
      ⟨loadPhys_completes (a := fun _ => mn) rfl, storePhys_completes (a := fun _ => mn) rfl⟩,
      ⟨loadPhys_completes (a := fun _ => mn) rfl, storePhys_completes (a := fun _ => mn) rfl⟩⟩⟩

end Sys2Proof.Proofs
end

section
/-! PROOFS. Decoding and encoding are inverse to each other: what decodes is the encoding of an instruction, byte for
byte, and the byte sequences that decode to nothing are those the encoding chapter lists. -/

namespace Sys2Proof.Proofs

open Sys2Proof.Machine Sys2Proof.Claims

variable {form mem : Form} {ops bytes rest : List Byte} {i : Instr} {len : Nat} {first op : Byte} {s : State}

/-- The encoding of an instruction decodes to it, whatever follows. -/
theorem decode_encode (i : Instr) (rest : List Byte) (hi : i.wellFormed = true) :
    decode (encode i ++ rest) = .ok i (encode i).length :=
  (encode_parses i hi).whole rest

/-- Settles O1. -/
theorem decodeEncode : Obligations.DecodeEncode := decode_encode

/-- Settles O4: each word is the encoding of its instruction. -/
theorem decodeSampleWords : Obligations.DecodeSampleWords :=
  ⟨decode_encode .adcAAtHl [] rfl, decode_encode (.ldRG .b .a) [] rfl, decode_encode (.bitBAtHl 3) [] rfl,
    decode_encode .ipset1 [] rfl, decode_encode .ipset2 [] rfl, decode_encode (.rlAtIxd 0xFE) [] rfl,
    decode_encode (.ldAtIydN 0x05 0x77) [] rfl, decode_encode (.lcallXMn 0x10 0xE234) [] rfl⟩

/-! ### The CB page -/

theorem registerCode_eq_code (r : Reg8) : registerCode r = r.code := by cases r <;> rfl

theorem encode_shiftOnReg (op : ShiftOp) (r : Reg8) :
    encode (shiftOnReg op r) = [0xCB, 0#2 ++ shiftCode op ++ r.code] := by
  cases op <;> rfl

theorem encode_shiftOnMem_hl (op : ShiftOp) : encode (shiftOnMem op .hl) = [0xCB, 0#2 ++ shiftCode op ++ 6#3] := by
  cases op <;> rfl

theorem wellFormed_shiftOnReg (op : ShiftOp) (r : Reg8) : (shiftOnReg op r).wellFormed = true := by cases op <;> rfl

theorem wellFormed_shiftOnMem_hl (op : ShiftOp) : (shiftOnMem op .hl).wellFormed = true := by cases op <;> rfl

theorem decode_shiftOnReg (op : ShiftOp) (r : Reg8) (rest : List Byte) :
    decode (0xCB :: (0#2 ++ shiftCode op ++ r.code) :: rest) = .ok (shiftOnReg op r) 2 := by
  have h := decode_encode (shiftOnReg op r) rest (wellFormed_shiftOnReg op r)
  rwa [encode_shiftOnReg] at h

theorem decode_shiftOnMem_hl (op : ShiftOp) (rest : List Byte) :
    decode (0xCB :: (0#2 ++ shiftCode op ++ 6#3) :: rest) = .ok (shiftOnMem op .hl) 2 := by
  have h := decode_encode (shiftOnMem op .hl) rest (wellFormed_shiftOnMem_hl op)
  rwa [encode_shiftOnMem_hl] at h

/-- The shift code 110 selects nothing. -/
theorem cbForm_shift_six (z : BitVec 3) : cbForm (0#2 ++ 6#3 ++ z) = .undefined := by
  simp only [cbForm, shiftForm, opX_fields, opY_fields, BitVec.toNat_ofNat]

/-- Settles O60: but for the undefined shift code, each second byte is that of an encoding. -/
theorem cbPage : Obligations.CbPage := by
  intro b rest
  simp only [registerCode_eq_code]
  exact ⟨fun r => ⟨decode_encode (.bitBR b r) rest rfl, decode_encode (.resBR b r) rest rfl,
      decode_encode (.setBR b r) rest rfl⟩,
    decode_encode (.bitBAtHl b) rest rfl, decode_encode (.resBAtHl b) rest rfl, decode_encode (.setBAtHl b) rest rfl,
    fun op => ⟨fun r => decode_shiftOnReg op r rest, decode_shiftOnMem_hl op rest⟩,
    congrArg (Form.read 2 · rest) (cbForm_shift_six b)⟩

/-! ### Opcode maps -/

/-- Every instruction that a form makes exists, and its encoding is the given opcode bytes and then its operand
bytes. A page is right where each entry of its map spells its own opcode bytes. -/
def Spells (form : Form) (opcode : List Byte) : Prop :=
  ∀ ops i, Takes form ops i → i.wellFormed = true ∧ encode i = opcode ++ ops

theorem Spells.plain (hi : i.wellFormed = true) : Spells (.plain i) (encode i) := by
  rintro _ _ ⟨⟩
  exact ⟨hi, (List.append_nil _).symm⟩

theorem Spells.undefined (opcode : List Byte) : Spells .undefined opcode := by
  rintro _ _ ⟨⟩

/-- The values of a three-bit field. -/
theorem field_cases {p : BitVec 3 → Prop} (v0 : p 0) (v1 : p 1) (v2 : p 2) (v3 : p 3) (v4 : p 4) (v5 : p 5) (v6 : p 6)
    (v7 : p 7) (y : BitVec 3) : p y := by
  obtain ⟨n, hn⟩ := y
  interval_cases n <;> assumption

theorem fields_eq (op : Byte) : op.extractLsb' 6 2 ++ opY op ++ opZ op = op := by
  apply BitVec.eq_of_toNat_eq
  simp only [toNat_fields, opY, opZ, BitVec.extractLsb'_toNat, Nat.shiftRight_eq_div_pow]
  omega

/-- An opcode byte by its bits 7:6, with its other two fields left open. -/
theorem opcode_cases {p : Byte → Prop} (x0 : ∀ y z : BitVec 3, p (0#2 ++ y ++ z))
    (x1 : ∀ y z : BitVec 3, p (1#2 ++ y ++ z)) (x2 : ∀ y z : BitVec 3, p (2#2 ++ y ++ z))
    (x3 : ∀ y z : BitVec 3, p (3#2 ++ y ++ z)) (op : Byte) : p op := by
  rw [← fields_eq op]
  generalize op.extractLsb' 6 2 = x
  obtain ⟨n, hn⟩ := x
  interval_cases n
  · exact x0 ..
  · exact x1 ..
  · exact x2 ..
  · exact x3 ..

/-- A field that selects a register or memory (30_encoding.md R108). -/
theorem regOr_spells {f : Reg8 → Form} (opcode : BitVec 3 → List Byte) (hreg : ∀ r, Spells (f r) (opcode r.code))
    (hmem : Spells mem (opcode 6)) : ∀ z, Spells (regOr z f mem) (opcode z) :=
  field_cases (hreg .b) (hreg .c) (hreg .d) (hreg .e) (hreg .h) (hreg .l) hmem (hreg .a)

theorem aluForm_spells (o z : BitVec 3) : Spells (aluForm o z) [2#2 ++ o ++ z] := by
  induction o using field_cases <;>
    exact regOr_spells (fun z => [2#2 ++ _ ++ z]) (fun _ => .plain rfl) (.plain rfl) z

theorem mainForm_spells (op : Byte) : Spells (mainForm op) [op] := by
  induction op using opcode_cases with
  | x2 y z =>
    simp only [mainForm, opX_fields, opY_fields, opZ_fields]
    exact aluForm_spells y z
  | x0 y z | x1 y z | x3 y z =>
    intro ops i h
    induction y using field_cases <;> induction z using field_cases <;> cases h <;> exact ⟨rfl, rfl⟩

theorem shiftForm_spells (o z : BitVec 3) : Spells (shiftForm o z) [0xCB, 0#2 ++ o ++ z] := by
  induction o using field_cases
  case v6 => exact .undefined _
  all_goals exact regOr_spells (fun z => [0xCB, 0#2 ++ _ ++ z]) (fun _ => .plain rfl) (.plain rfl) z

theorem cbForm_spells (op : Byte) : Spells (cbForm op) [0xCB, op] := by
  induction op using opcode_cases <;> simp only [cbForm, opX_fields, opY_fields, opZ_fields]
  case x0 y z => exact shiftForm_spells y z
  all_goals exact regOr_spells (fun z => [0xCB, _ ++ _ ++ z]) (fun _ => .plain rfl) (.plain rfl) _

theorem edForm_spells (op : Byte) : Spells (edForm op) [0xED, op] := by
  induction op using opcode_cases with
  | x0 y z | x3 y z =>
    simp only [edForm, opX_fields]
    exact .undefined _
  | x1 y z | x2 y z =>
    intro ops i h
    induction y using field_cases <;> induction z using field_cases <;> cases h <;> exact ⟨rfl, rfl⟩

theorem ddForm_spells (op : Byte) : Spells (ddForm op) [0xDD, op] := by
  intro ops i h
  induction op using opcode_cases with
  | x0 y z | x1 y z | x2 y z | x3 y z =>
    induction y using field_cases <;> induction z using field_cases <;> cases h <;> exact ⟨rfl, rfl⟩

theorem fdForm_spells (op : Byte) : Spells (fdForm op) [0xFD, op] := by
  intro ops i h
  induction op using opcode_cases with
  | x0 y z | x1 y z | x2 y z | x3 y z =>
    induction y using field_cases <;> induction z using field_cases <;> cases h <;> exact ⟨rfl, rfl⟩

/-- After DD CB d only the entries of `rrr = 110` are defined (30_encoding.md R105). -/
theorem ixCbForm_spells (d op : Byte) : Spells (ixCbForm d op) [0xDD, 0xCB, d, op] := by
  intro ops i h
  have hz : opZ op = 6#3 := by
    by_contra hz
    rw [ixCbForm, if_pos hz] at h
    cases h
  induction op using opcode_cases with
  | x0 y z | x1 y z | x2 y z | x3 y z =>
    rw [opZ_fields] at hz
    subst hz
    induction y using field_cases <;> cases h <;> exact ⟨rfl, rfl⟩

/-- The same after FD CB d. -/
theorem iyCbForm_spells (d op : Byte) : Spells (iyCbForm d op) [0xFD, 0xCB, d, op] := by
  intro ops i h
  have hz : opZ op = 6#3 := by
    by_contra hz
    rw [iyCbForm, if_pos hz] at h
    cases h
  induction op using opcode_cases with
  | x0 y z | x1 y z | x2 y z | x3 y z =>
    rw [opZ_fields] at hz
    subst hz
    induction y using field_cases <;> cases h <;> exact ⟨rfl, rfl⟩

/-! ### What decodes is an encoding -/

/-- An instruction that exists stands at the head of the bytes, `len` bytes long. -/
structure HeadedBy (i : Instr) (len : Nat) (bytes : List Byte) : Prop where
  wellFormed : i.wellFormed = true
  length_eq : len = (encode i).length
  starts : ∃ rest, bytes = encode i ++ rest

theorem HeadedBy.append (h : HeadedBy i len bytes) (more : List Byte) : HeadedBy i len (bytes ++ more) := by
  obtain ⟨hi, hlen, rest, rfl⟩ := h
  exact ⟨hi, hlen, rest ++ more, List.append_assoc ..⟩

/-- A form that is read has taken its operand bytes. -/
theorem Takes.of_read {n : Nat} (h : form.read n bytes = .ok i len) :
    ∃ ops rest, Takes form ops i ∧ bytes = ops ++ rest ∧ len = n + ops.length := by
  unfold Form.read at h
  split at h <;> cases h
  case h_1 => exact ⟨[], bytes, .plain i, rfl, rfl⟩
  case h_2 f b rest => exact ⟨[b], rest, .byte f b, rfl, rfl⟩
  case h_3 f b b' rest => exact ⟨[b, b'], rest, .byteByte f b b', rfl, rfl⟩
  case h_4 f n m rest =>
    have ht := Takes.word f (pair m n)
    rw [lo_pair, hi_pair] at ht
    exact ⟨[n, m], rest, ht, rfl, rfl⟩
  case h_5 f n m x rest =>
    have ht := Takes.wordByte f (pair m n) x
    rw [lo_pair, hi_pair] at ht
    exact ⟨[n, m, x], rest, ht, rfl, rfl⟩

theorem Spells.headedBy {opcode : List Byte} (hf : Spells form opcode) (h : form.read opcode.length bytes = .ok i len) :
    HeadedBy i len (opcode ++ bytes) := by
  obtain ⟨ops, rest, ht, rfl, rfl⟩ := Takes.of_read h
  obtain ⟨hi, henc⟩ := hf ops i ht
  exact ⟨hi, by rw [henc, List.length_append], rest, by rw [henc, List.append_assoc]⟩

theorem opcodePage_headedBy {page : Byte → Form} (hpage : ∀ op, Spells (page op) [first, op])
    (h : opcodePage page rest = .ok i len) : HeadedBy i len (first :: rest) := by
  cases rest with
  | nil => cases h
  | cons op rest => exact (hpage op).headedBy h

theorem indexPage_headedBy {page : Byte → Form} {cbPage : Byte → Byte → Form}
    (hpage : ∀ op, Spells (page op) [first, op]) (hcb : ∀ d op, Spells (cbPage d op) [first, 0xCB, d, op])
    (h : indexPage page cbPage rest = .ok i len) : HeadedBy i len (first :: rest) := by
  unfold indexPage at h
  split at h
  · cases h
  next op rest =>
    split_ifs at h with hop
    · subst hop
      split at h
      next d last rest => exact ((hcb d last).headedBy h).append rest
      · cases h
    · exact (hpage op).headedBy h

theorem decode_headedBy (h : decode bytes = .ok i len) : HeadedBy i len bytes := by
  unfold decode at h
  split at h
  · cases h
  next op rest =>
    split_ifs at h with hcb hed hdd hfd
    · exact hcb ▸ opcodePage_headedBy cbForm_spells h
    · exact hed ▸ opcodePage_headedBy edForm_spells h
    · exact hdd ▸ indexPage_headedBy ddForm_spells ixCbForm_spells h
    · exact hfd ▸ indexPage_headedBy fdForm_spells iyCbForm_spells h
    · exact (mainForm_spells op).headedBy h

/-- Settles O2. -/
theorem decodeOnlyEncodings : Obligations.DecodeOnlyEncodings := by
  intro bytes i len h
  obtain ⟨hi, rfl, rest, rfl⟩ := decode_headedBy h
  exact ⟨hi, rfl, List.take_left⟩

/-! ### What does not decode -/

/-- An opcode map has no entry here. -/
def isUndefined : Form → Bool
  | .undefined => true
  | _ => false

theorem isUndefined_iff : isUndefined form = true ↔ form = .undefined := by cases form <;> simp [isUndefined]

/-- The opcode bytes that have an entry in a map, in ascending order, as the spec lists them. -/
def definedBytes (page : Byte → Form) : List Byte :=
  ((List.range 256).map (BitVec.ofNat 8)).filter fun op => !isUndefined (page op)

theorem undefined_iff {page : Byte → Form} (hpage : definedBytes page = bytes) :
    page op = .undefined ↔ op ∉ bytes := by
  have hop : op ∈ (List.range 256).map (BitVec.ofNat 8) :=
    List.mem_map.2 ⟨op.toNat, List.mem_range.2 op.isLt, BitVec.ofNat_toNat 8 op⟩
  rw [← hpage, definedBytes, List.mem_filter, ← isUndefined_iff]
  simp [-List.mem_map, hop]

theorem definedBytes_congr {page page' : Byte → Form} (h : ∀ op, isUndefined (page op) = isUndefined (page' op)) :
    definedBytes page = definedBytes page' := by
  simp only [definedBytes, h]

/-- There is no undefined first byte (30_encoding.md R128). -/
theorem mainForm_ne_undefined (hop : op ∉ pageBytes) : mainForm op ≠ .undefined := by
  rw [ne_eq, ← isUndefined_iff]
  revert op
  decide

theorem cbForm_undefined_iff : cbForm op = .undefined ↔ 0x30 ≤ op.toNat ∧ op.toNat ≤ 0x37 := by
  rw [← isUndefined_iff]
  revert op
  decide

theorem definedBytes_edForm : definedBytes edForm = edBytes := by decide

theorem definedBytes_ddForm : definedBytes ddForm = indexBytes := by decide

theorem definedBytes_fdForm : definedBytes fdForm = indexBytes := by decide

/-- The displacement plays no part. -/
theorem isUndefined_ixCbForm (d op : Byte) : isUndefined (ixCbForm d op) = isUndefined (ixCbForm 0 op) := by
  simp only [ixCbForm]
  split_ifs
  · rfl
  · split
    · split <;> rfl
    all_goals rfl

theorem isUndefined_iyCbForm (d op : Byte) : isUndefined (iyCbForm d op) = isUndefined (iyCbForm 0 op) := by
  simp only [iyCbForm]
  split_ifs
  · rfl
  · split
    · split <;> rfl
    all_goals rfl

theorem definedBytes_ixCbForm (d : Byte) : definedBytes (ixCbForm d) = indexBitBytes :=
  (definedBytes_congr (isUndefined_ixCbForm d)).trans (by decide)

theorem definedBytes_iyCbForm (d : Byte) : definedBytes (iyCbForm d) = indexBitBytes :=
  (definedBytes_congr (isUndefined_iyCbForm d)).trans (by decide)

/-- Operand bytes play no part: too few of them are not undefined. -/
theorem read_undefined_iff {n : Nat} : form.read n bytes = .undefined ↔ form = .undefined := by
  cases form with
  | plain | undefined => simp [Form.read]
  | byte => rcases bytes with _ | ⟨b, rest⟩ <;> simp [Form.read]
  | byteByte | word => rcases bytes with _ | ⟨b, _ | ⟨b', rest⟩⟩ <;> simp [Form.read]
  | wordByte => rcases bytes with _ | ⟨n, _ | ⟨m, _ | ⟨x, rest⟩⟩⟩ <;> simp [Form.read]

theorem opcodePage_undefined_iff {page : Byte → Form} :
    opcodePage page (op :: rest) = .undefined ↔ page op = .undefined := read_undefined_iff

theorem indexPage_undefined_iff {page : Byte → Form} {cbPage : Byte → Byte → Form}
    (hpage : definedBytes page = indexBytes) (hcb : ∀ d, definedBytes (cbPage d) = indexBitBytes) :
    indexPage page cbPage (op :: rest) = .undefined ↔ op ≠ 0xCB#8 ∧ op ∉ indexBytes ∨
      op = 0xCB#8 ∧ ∃ d last more, rest = d :: last :: more ∧ last ∉ indexBitBytes := by
  by_cases hop : op = 0xCB#8
  · rcases rest with _ | ⟨d, _ | ⟨last, more⟩⟩ <;>
      simp [indexPage, hop, read_undefined_iff, undefined_iff (hcb _)]
  · simp [indexPage, hop, read_undefined_iff, undefined_iff hpage]

theorem decode_singleton_ne_undefined (op : Byte) : decode [op] ≠ .undefined := by
  by_cases hop : op ∈ pageBytes
  · revert op
    decide
  · rw [decode_main hop, ne_eq, read_undefined_iff]
    exact mainForm_ne_undefined hop

theorem decode_undefined_iff : ∀ bytes, decode bytes = .undefined ↔ NotDefined bytes
  | [] => by simp [decode, NotDefined]
  | [op] => iff_of_false (decode_singleton_ne_undefined op) id
  | first :: second :: rest => by
    by_cases hfirst : first ∈ pageBytes
    · simp only [pageBytes, List.mem_cons, List.not_mem_nil, or_false] at hfirst
      obtain rfl | rfl | rfl | rfl := hfirst
      · exact opcodePage_undefined_iff.trans (cbForm_undefined_iff.trans (by simp [NotDefined]))
      · exact opcodePage_undefined_iff.trans ((undefined_iff definedBytes_edForm).trans (by simp [NotDefined]))
      · exact (indexPage_undefined_iff definedBytes_ddForm definedBytes_ixCbForm).trans (by simp [NotDefined])
      · exact (indexPage_undefined_iff definedBytes_fdForm definedBytes_iyCbForm).trans (by simp [NotDefined])
    · rw [decode_main hfirst, read_undefined_iff]
      refine iff_of_false (mainForm_ne_undefined hfirst) ?_
      simp only [pageBytes, List.mem_cons, List.not_mem_nil, or_false, not_or] at hfirst
      obtain ⟨hcb, hed, hdd, hfd⟩ := hfirst
      simp [NotDefined, hcb, hed, hdd, hfd]

theorem fetchBytes_afterAsking (s : State) : fetchBytes (afterAsking s) = fetchBytes s := by
  rw [afterAsking_eq]
  rfl

theorem runInstruction_of_undefined (h : decode (fetchBytes s) = .undefined) :
    runInstruction s = .refused (.undefinedOpcode (fetchBytes s)) := by
  unfold runInstruction
  rw [fetched, h]

/-- Settles O3. -/
theorem undefinedExactly : Obligations.UndefinedExactly := by
  refine ⟨decode_undefined_iff, fun s hnow h => ?_⟩
  rw [← fetchBytes_afterAsking s] at h ⊢
  rw [step_of_no_interrupt hnow]
  exact runInstruction_of_undefined ((decode_undefined_iff _).2 h)

end Sys2Proof.Proofs
end

section
/-! PROOFS. Accesses that an I/O latch may redirect, in the words of the statements, and the loads, the stores and the
register moves that are made of them. -/

namespace Sys2Proof.Proofs

open Sys2Proof.Machine Sys2Proof.Claims

variable {i : Instr} {s u : State} {c : Ctx} {a w : Word} {v : Byte}

/-! ### Memory -/

/-- Settles O20. -/
theorem memoryWriters : Obligations.MemoryWriters := fun _ _ _ h hs =>
  memKept_of_mem (exec_mem h fun ⟨hstores, _⟩ => absurd (hs.symm.trans hstores) Bool.false_ne_true)

/-! ### The selection of a marked access -/

/-- A marked access goes to the space of the I/O latch, or for one of the twelve forms to the remembered one
(45_prefix_block.md R434, 10_state.md R55). -/
theorem ctx_io_eq_space {m : Marks} (hm : m.io = true) : (m.ctx s).io = space m.bug s := by
  show (if m.io = true then _ else _) = _
  rw [if_pos hm]
  unfold space
  cases s.io <;> rfl

theorem space_false (s : State) : space false s = s.io := by
  unfold space
  cases s.io <;> rfl

theorem ctx_io_eq_io {x : Bool} : (Marks.ctx { altd := x, io := true } s).io = s.io :=
  (ctx_io_eq_space rfl).trans (space_false s)

theorem readPieces_subset (sel : Option IoSpace) : readPieces sel ⊆ ioPieces := by
  cases sel <;> simp [readPieces, ioPieces]

theorem writePieces_subset (sel : Option IoSpace) : writePieces sel ⊆ ioPieces := by
  cases sel <;> simp [writePieces, ioPieces]

/-- What is read first may change only the I/O surroundings. -/
theorem readPieces_append_subset (sel : Option IoSpace) (L : List Piece) : readPieces sel ++ L ⊆ L ++ ioPieces :=
  List.append_subset.2 ⟨List.subset_append_of_subset_right L (readPieces_subset sel), List.subset_append_left L _⟩

/-! ### Source accesses -/

/-- An I/O read answers what the oracle says and is recorded (20_memory.md R78). -/
theorem ioRead_answer (sp : IoSpace) (a : Word) (s : State) : (ioRead sp a s).1 = (around s).answer sp a := by
  unfold ioRead Around.answer around
  cases s.ioIn <;> rfl

theorem around_ioRead (sp : IoSpace) (a : Word) (s : State) :
    around (ioRead sp a s).2 = (around s).read (some sp) a := by
  unfold ioRead around Around.read Around.answer
  cases s.ioIn <;> rfl

/-- A source access that gives `v` answers `v`, and changes the surroundings as the statements say. -/
theorem srcRead_of_sourceByte (h : SourceByte c.io a v s) :
    ∃ u, srcRead c a s = .ok (v, u) ∧ around u = (around s).read c.io a := by
  cases hc : c.io with
  | none =>
    rw [hc] at h
    exact ⟨s, srcRead_ok.2 (.inl ⟨hc, h, rfl⟩), rfl⟩
  | some sp =>
    rw [hc] at h
    exact ⟨_, srcRead_ok.2 (.inr ⟨sp, hc, Prod.ext ((ioRead_answer sp a s).trans h.symm) rfl⟩), around_ioRead sp a s⟩

/-- A source access of two bytes is one of the low byte and then one of the high byte. -/
theorem sourceWord_bytes {sel : Option IoSpace} (h : SourceWord sel a w s) :
    ∃ x y, w = pair y x ∧ SourceByte sel a x s ∧
      ∀ u, (sel = none → u = s) → around u = (around s).read sel a → SourceByte sel (a + 1) y u := by
  cases sel with
  | none =>
    obtain ⟨x, y, hx, hy, rfl⟩ := h
    exact ⟨x, y, rfl, hx, fun u hu _ => hu rfl ▸ hy⟩
  | some sp => exact ⟨_, _, h, rfl, fun u _ hu => by rw [SourceByte, hu]⟩

theorem srcRead16_of_sourceWord (h : SourceWord c.io a w s) :
    ∃ u, srcRead16 c a s = .ok (w, u) ∧ around u = ((around s).read c.io a).read c.io (a + 1) := by
  obtain ⟨x, y, rfl, hx, hy⟩ := sourceWord_bytes h
  obtain ⟨u, hu, haround⟩ := srcRead_of_sourceByte hx
  obtain ⟨u', hu', haround'⟩ := srcRead_of_sourceByte (hy u (srcRead_shape hu).1 haround)
  exact ⟨u', srcRead16_ok.2 ⟨_, _, hu, hu', rfl⟩, haround'.trans (by rw [haround])⟩

/-! ### Destination accesses -/

theorem around_dstWrite (c : Ctx) (a : Word) (v : Byte) (s : State) :
    around (dstWrite c a v s) = (around s).write c.io a v := by
  rcases dstWrite_shape c a v s with ⟨hc, h⟩ | ⟨sp, hc, h⟩ <;> rw [h, hc]
  · rfl
  · simp [around, Around.write, mmuAfterWrite_eq]

theorem around_dstWrite16 (c : Ctx) (a w : Word) (s : State) :
    around (dstWrite16 c a w s) = ((around s).write c.io a (lo w)).write c.io (a + 1) (hi w) := by
  rw [dstWrite16, around_dstWrite, around_dstWrite]

theorem storedByte_dstWrite (c : Ctx) (a : Word) (v : Byte) (s : State) :
    StoredByte c.io a v s (dstWrite c a v s) := by
  rcases dstWrite_shape c a v s with ⟨hc, h⟩ | ⟨sp, hc, h⟩ <;> rw [h, hc]
  · exact ⟨physByte_physWrite_same _ v, fun p hp => physByte_physWrite_other (by simpa using hp) v⟩
  · exact memKept_of_mem rfl

theorem storedWord_dstWrite16 (c : Ctx) (a w : Word) (s : State) :
    StoredWord c.io a w s (dstWrite16 c a w s) := by
  unfold dstWrite16 dstWrite
  cases c.io with
  | none => exact twoBytes_physWrite (s.phys a) (s.phys (a + 1)) (lo w) (hi w) s
  | some sp => exact memKept_of_mem rfl

/-! ### Registers -/

/-- A byte register written reads back in the bank it was written to. -/
theorem get_dst8 (c : Ctx) (r : Reg8) (v : Byte) (s : State) : (bankOf c.alt (dst8 c r v s)).get r = v := by
  obtain ⟨x, io⟩ := c
  cases x <;> exact get_set_same r v

/-- A byte register of the main bank written with its own value. -/
theorem dst8_self {c : Ctx} (hc : c.alt = false) (r : Reg8) (s : State) : dst8 c r (s.main.get r) s = s := by
  rw [dst8, hc]
  cases r <;> rfl

theorem around_dst8 (c : Ctx) (r : Reg8) (v : Byte) (s : State) : around (dst8 c r v s) = around s := by simp [around]

theorem around_wordDst (c : Ctx) (r : WordReg) (w : Word) (s : State) : around (r.dst c w s) = around s := by
  simp [around]

/-! ### Constants and register moves -/

theorem setByte_completes {r : Reg8} {f : State → Byte} (he : exec i s = perform { altd := true } (setByte r f) s) :
    ByteSet i s false s.altd r (f s) :=
  completes_of_exec { altd := true } he (dst8_keeps ⟨s.altd, none⟩ r (f s))
    ⟨get_dst8 ⟨s.altd, none⟩ r (f s) s, memKept_of_mem (dst8_mem ..)⟩

/-- With or without an ALTD mark, privileged or not; IX, IY and SP lie in no bank, so that the mark makes no difference
there. -/
theorem setWord_completes {r : WordReg} {f : State → Word} (x : Bool) {p : Bool}
    (he : exec i s = perform { altd := x, priv := p } (setWord r f) s) : WordSet i s p (x && s.altd) r (f s) :=
  completes_of_exec { altd := x, priv := p } he (wordDst_keeps ⟨x && s.altd, none⟩ r (f s))
    ⟨wordIn_dst ⟨x && s.altd, none⟩ r (f s) s, memKept_of_mem (wordDst_mem ..)⟩

theorem ldRG_self_completes (r : Reg8) (halt : s.altd = false) :
    Completes (.ldRG r r) s false none [] fun t => MemKept s t := by
  have hself : dst8 (Marks.ctx { altd := true } s) r (s.main.get r) s = s := dst8_self halt r s
  have he : exec (.ldRG r r) s = perform { altd := true } (setByte r (·.main.get r)) s := rfl
  exact completes_of_exec { altd := true } (he.trans (perform_next.2 ⟨s, setByte_ok.2 hself.symm, rfl⟩)) .refl
    (memKept_of_mem rfl)

/-- Settles O36. -/
theorem immediatesAndMoves : Obligations.ImmediatesAndMoves := fun _ =>
  ⟨fun mn => ⟨setWord_completes false (f := fun _ => mn) rfl, setWord_completes false (f := fun _ => mn) rfl,
      fun h => withAlternate_refused.2 ⟨⟨rfl, h⟩, rfl⟩,
      fun _ h => setWord_completes true (f := fun _ => mn) (withAlternate_run h)⟩,
    fun _ n => setByte_completes (f := fun _ => n) rfl, fun _ g => setByte_completes (f := (·.main.get g)) rfl,
    ldRG_self_completes, setWord_completes true (f := State.ix) rfl,
    setWord_completes true (f := State.iy) rfl, setWord_completes false (f := State.hl) rfl,
    setWord_completes false (f := State.hl) rfl, setWord_completes false (f := State.hl) rfl,
    setWord_completes false (f := State.ix) rfl, setWord_completes false (f := State.iy) rfl⟩

/-! ### Bytes -/

/-- What the body of a byte load answers. -/
theorem loadByte_answers {m : MemAt} (r : Reg8) (hv : SourceByte c.io (m.addr s) v s) :
    ∃ u, loadByte r m c s = .ok u ∧ Keeps (regPiece c.alt r :: ioPieces) s u ∧ (bankOf c.alt u).get r = v ∧
      u.mem = s.mem ∧ around u = (around s).read c.io (m.addr s) := by
  obtain ⟨u, hu, haround⟩ := srcRead_of_sourceByte hv
  have hbody : loadByte r m c s = .ok (dst8 c r v u) := loadByte_ok.2 ⟨v, u, hu, rfl⟩
  exact ⟨_, hbody, (loadByte_keeps hbody).mono (readPieces_append_subset ..), get_dst8 c r v u,
    (dst8_mem ..).trans (srcRead_mem hu), (around_dst8 ..).trans haround⟩

/-- A byte load, one of the twelve forms or not. -/
theorem loadByte_completes {r : Reg8} {m : MemAt} {bug : Bool}
    (he : exec i s = perform { altd := true, io := true, bug := bug } (loadByte r m) s) :
    ByteLoad i s (space bug s) (m.addr s) r := by
  intro v hv
  have hsel : (Marks.ctx { altd := true, io := true, bug := bug } s).io = space bug s := ctx_io_eq_space rfl
  rw [← hsel] at hv ⊢
  obtain ⟨u, hu, hkeeps, hreg, hmem, haround⟩ := loadByte_answers r hv
  exact completes_of_exec _ (he.trans (perform_next.2 ⟨u, hu, rfl⟩)) hkeeps ⟨hreg, memKept_of_mem hmem, haround⟩

theorem loadByte_completes_io {r : Reg8} {m : MemAt}
    (he : exec i s = perform { altd := true, io := true } (loadByte r m) s) : ByteLoad i s s.io (m.addr s) r :=
  space_false s ▸ loadByte_completes he

/-- Settles O39. -/
theorem byteLoads : Obligations.ByteLoads := fun _ =>
  ⟨fun _ => loadByte_completes (m := .hl) rfl, fun _ d => loadByte_completes_io (m := .ixd d) rfl,
    fun _ d => loadByte_completes_io (m := .iyd d) rfl, loadByte_completes_io (m := .bc) rfl,
    loadByte_completes_io (m := .de) rfl, fun mn => loadByte_completes_io (m := .mn mn) rfl⟩

/-- A byte store, one of the twelve forms or not. -/
theorem storeByte_completes {m : MemAt} {f : State → Byte} {bug : Bool}
    (he : exec i s = perform { io := true, bug := bug } (storeByte m f) s) :
    ByteStore i s (space bug s) (m.addr s) (f s) := by
  have hsel : (Marks.ctx { io := true, bug := bug } s).io = space bug s := ctx_io_eq_space rfl
  rw [← hsel]
  exact completes_of_exec _ he ((dstWrite_keeps _ _ _).mono (writePieces_subset _))
    ⟨storedByte_dstWrite _ _ _ s, around_dstWrite _ _ _ s⟩

theorem storeByte_completes_io {m : MemAt} {f : State → Byte}
    (he : exec i s = perform { io := true } (storeByte m f) s) : ByteStore i s s.io (m.addr s) (f s) :=
  space_false s ▸ storeByte_completes he

/-- Settles O40. -/
theorem byteStores : Obligations.ByteStores := fun _ =>
  ⟨fun r => storeByte_completes (m := .hl) (f := (·.main.get r)) rfl,
    fun n => storeByte_completes_io (m := .hl) (f := fun _ => n) rfl,
    fun d r => storeByte_completes_io (m := .ixd d) (f := (·.main.get r)) rfl,
    fun d n => storeByte_completes_io (m := .ixd d) (f := fun _ => n) rfl,
    fun d r => storeByte_completes_io (m := .iyd d) (f := (·.main.get r)) rfl,
    fun d n => storeByte_completes_io (m := .iyd d) (f := fun _ => n) rfl,
    storeByte_completes_io (m := .bc) (f := (·.main.a)) rfl, storeByte_completes_io (m := .de) (f := (·.main.a)) rfl,
    fun mn => storeByte_completes_io (m := .mn mn) (f := (·.main.a)) rfl⟩

/-! ### Words -/

/-- What the body of a word load answers. -/
theorem loadWord_answers {m : MemAt} (r : WordReg) (hw : SourceWord c.io (m.addr s) w s) :
    ∃ u, loadWord r m c s = .ok u ∧ Keeps (wordPieces c.alt r ++ ioPieces) s u ∧ wordIn c.alt u r = w ∧
      u.mem = s.mem ∧ around u = ((around s).read c.io (m.addr s)).read c.io (m.addr s + 1) := by
  obtain ⟨u, hu, haround⟩ := srcRead16_of_sourceWord hw
  have hbody : loadWord r m c s = .ok (r.dst c w u) := loadWord_ok.2 ⟨w, u, hu, rfl⟩
  exact ⟨_, hbody, (loadWord_keeps hbody).mono (readPieces_append_subset ..), wordIn_dst c r w u,
    (wordDst_mem ..).trans (srcRead16_mem hu), (around_wordDst ..).trans haround⟩

/-- A word load with or without an ALTD mark; IX and IY lie in no bank, so that the mark makes no difference there. -/
theorem loadWord_completes {r : WordReg} {m : MemAt} (x : Bool)
    (he : exec i s = perform { altd := x, io := true } (loadWord r m) s) (hw : SourceWord s.io (m.addr s) w s) :
    Completes i s false s.io (wordPieces (x && s.altd) r ++ ioPieces) fun t =>
      wordIn (x && s.altd) t r = w ∧ MemKept s t ∧
        around t = ((around s).read s.io (m.addr s)).read s.io (m.addr s + 1) := by
  have hsel : (Marks.ctx { altd := x, io := true } s).io = s.io := ctx_io_eq_io
  rw [← hsel] at hw
  obtain ⟨u, hu, hkeeps, hreg, hmem, haround⟩ := loadWord_answers r hw
  rw [hsel] at haround
  exact completes_of_exec { altd := x, io := true } (he.trans (perform_next.2 ⟨u, hu, rfl⟩)) hkeeps
    ⟨hreg, memKept_of_mem hmem, haround⟩

theorem ldDdAtMn_completes (dd : RegSs) (mn : Word) (h : dd = .sp → s.altd = false) :
    WordLoad (.ldDdAtMn dd mn) s mn (ssReg dd) := fun _ =>
  loadWord_completes true (m := .mn mn) (withAlternate_run h)

/-- Settles O41. -/
theorem wordLoads : Obligations.WordLoads := fun _ =>
  ⟨fun mn => ⟨fun _ => loadWord_completes true (m := .mn mn) rfl,
      fun _ => loadWord_completes false (r := .ix) (m := .mn mn) rfl,
      fun _ => loadWord_completes false (r := .iy) (m := .mn mn) rfl,
      fun h => withAlternate_refused.2 ⟨⟨rfl, h⟩, rfl⟩, fun dd => ldDdAtMn_completes dd mn⟩,
    fun d => ⟨fun _ => loadWord_completes true (m := .hld d) rfl,
      fun _ => loadWord_completes true (m := .ixd d) rfl, fun _ => loadWord_completes true (m := .iyd d) rfl⟩⟩

theorem storeWord_completes {r : WordReg} {m : MemAt} (he : exec i s = perform { io := true } (storeWord m r) s) :
    WordStore i s (m.addr s) (wordIn false s r) := by
  have hsel : (Marks.ctx { io := true } s).io = s.io := ctx_io_eq_io
  rw [← read_eq_wordIn]
  refine completes_of_exec _ he ((dstWrite16_keeps _ _ _).mono (writePieces_subset _)) ?_
  rw [← hsel]
  exact ⟨storedWord_dstWrite16 _ _ _ s, around_dstWrite16 _ _ _ s⟩

/-- Settles O42. -/
theorem wordStores : Obligations.WordStores := fun _ =>
  ⟨fun mn => ⟨storeWord_completes (m := .mn mn) (r := .pair .hl) rfl, storeWord_completes (m := .mn mn) (r := .ix) rfl,
      storeWord_completes (m := .mn mn) (r := .iy) rfl,
      fun ss => storeWord_completes (m := .mn mn) (r := ssReg ss) rfl⟩,
    fun d => ⟨storeWord_completes (m := .hld d) (r := .pair .hl) rfl,
      storeWord_completes (m := .ixd d) (r := .pair .hl) rfl, storeWord_completes (m := .iyd d) (r := .pair .hl) rfl⟩⟩

/-! ### The stack frame -/

/-- The offset of `(SP+n)` is unsigned, and the address wraps (20_memory.md R73). -/
theorem spnAddr_eq_ofNat (n : Byte) (s : State) : spnAddr n s = BitVec.ofNat 16 (s.sp.toNat + n.toNat) := by
  apply BitVec.eq_of_toNat_eq
  simp [spnAddr, zext16]

theorem spnAddr_succ (n : Byte) (s : State) : spnAddr n s + 1 = BitVec.ofNat 16 (s.sp.toNat + n.toNat + 1) := by
  rw [spnAddr_eq_ofNat, BitVec.ofNat_add _ 1]
  rfl

theorem loadFrame_completes {r : WordReg} {n : Byte} (x : Bool)
    (he : exec i s = perform { altd := x } (loadFrame r n) s) :
    LoadsTwo i s (x && s.altd) (s.phys (spnAddr n s)) (s.phys (spnAddr n s + 1)) r := by
  intro l h hl hh
  have hbody : loadFrame r n ⟨x && s.altd, none⟩ s = .ok (r.dst ⟨x && s.altd, none⟩ (pair h l) s) :=
    loadFrame_ok.2 ⟨_, memRead16_ok.2 ⟨l, h, hl, hh, rfl⟩, rfl⟩
  exact completes_of_exec { altd := x } (he.trans (perform_next.2 ⟨_, hbody, rfl⟩)) (loadFrame_keeps hbody)
    ⟨wordIn_dst ⟨x && s.altd, none⟩ r _ s, memKept_of_mem (wordDst_mem ..)⟩

theorem storeFrame_completes {r : WordReg} {n : Byte} (he : exec i s = perform {} (storeFrame n r) s) :
    StoresTwo i s (s.phys (spnAddr n s)) (s.phys (spnAddr n s + 1)) (wordIn false s r) := by
  rw [← read_eq_wordIn]
  exact completes_of_exec {} he (memWrite16_keeps _ _) (twoBytes_physWrite _ _ (lo (r.read s)) (hi (r.read s)) s)

/-- Settles O43: the three registers go through the same two bodies. -/
theorem stackFrame : Obligations.StackFrame := by
  intro s n
  rw [← spnAddr_succ, ← spnAddr_eq_ofNat]
  simp only [List.forall_mem_cons, List.not_mem_nil, false_imp_iff, implies_true, and_true]
  exact ⟨⟨loadFrame_completes true rfl, storeFrame_completes rfl⟩,
    ⟨loadFrame_completes false (r := .ix) rfl, storeFrame_completes rfl⟩,
    ⟨loadFrame_completes false (r := .iy) rfl, storeFrame_completes rfl⟩⟩

end Sys2Proof.Proofs
end

section
/-! PROOFS. The moves between A and the control registers, and the instructions that move words between registers and
the top of the stack. -/

namespace Sys2Proof.Proofs

open Sys2Proof.Machine Sys2Proof.Claims

variable {i : Instr} {s t u : State} {l h : Byte}

/-! ### Flags in the words of the statements -/

/-- The bits of F that hold no flag are storage (10_state.md R43). -/
theorem getLsbD_applyFlags_storage (w : FlagWrite) (f : Byte) {k : Nat}
    (hk : k ∉ [flagSBit, flagZBit, flagLVBit, flagCBit]) : (applyFlags w f).getLsbD k = f.getLsbD k := by
  obtain ⟨hs, hz, hl, hc⟩ : k ≠ flagSBit ∧ k ≠ flagZBit ∧ k ≠ flagLVBit ∧ k ≠ flagCBit := by simpa using hk
  by_cases h8 : k < 8
  · rw [getLsbD_applyFlags w f h8, if_neg hc, if_neg hl, if_neg hz, if_neg hs]
  · rw [BitVec.getLsbD_of_ge _ _ (Nat.not_lt.1 h8), BitVec.getLsbD_of_ge _ _ (Nat.not_lt.1 h8)]

theorem flagsBecome_applyFlags (w : FlagWrite) (f : Byte) : FlagsBecome w f (applyFlags w f) :=
  ⟨flagS_applyFlags w f, flagZ_applyFlags w f, flagLV_applyFlags w f, flagC_applyFlags w f,
    fun _ hk => getLsbD_applyFlags_storage w f hk⟩

theorem bankOf_setFlags (c : Ctx) (w : FlagWrite) (s : State) :
    bankOf c.alt (setFlags c w s) = (bankOf c.alt s).setFlags w := by
  obtain ⟨x, io⟩ := c
  cases x <;> rfl

theorem bankOf_dst8 (c : Ctx) (r : Reg8) (v : Byte) (s : State) :
    bankOf c.alt (dst8 c r v s) = (bankOf c.alt s).set r v := by
  obtain ⟨x, io⟩ := c
  cases x <;> rfl

theorem get_setFlags_dst8 (c : Ctx) (r : Reg8) (v : Byte) (w : FlagWrite) (s : State) :
    (bankOf c.alt (setFlags c w (dst8 c r v s))).get r = v := by
  rw [bankOf_setFlags, setFlags_get, get_dst8]

theorem flagsBecome_setFlags_dst8 (c : Ctx) (r : Reg8) (v : Byte) (w : FlagWrite) (s : State) :
    FlagsBecome w (bankOf c.alt s).f (bankOf c.alt (setFlags c w (dst8 c r v s))).f := by
  rw [bankOf_setFlags, setFlags_f, bankOf_dst8, set_f]
  exact flagsBecome_applyFlags w _

/-- A byte register and flags, written to the bank that ALTD chooses. -/
theorem dst8_setFlags_completes {r : Reg8} {v : State → Byte} {f : State → FlagWrite}
    (he : exec i s = perform { altd := true } (fun c s => .ok (setFlags c (f s) (dst8 c r (v s) s))) s) :
    ByteOp i s r (v s) (f s) :=
  completes_of_exec { altd := true } he
    ((dst8_keeps ⟨s.altd, none⟩ r (v s)).trans (setFlags_keeps ⟨s.altd, none⟩ (f s)))
    ⟨get_setFlags_dst8 ⟨s.altd, none⟩ r (v s) (f s) s, flagsBecome_setFlags_dst8 ⟨s.altd, none⟩ r (v s) (f s) s,
      memKept_of_mem ((setFlags_mem ..).trans (dst8_mem ..))⟩

/-! ### Control registers -/

/-- S and Z of a byte as facts about its number (41_move_exchange_stack.md R202; log 24). -/
theorem moveFlags_eq (v : Byte) : moveFlags v = { s := decide (128 ≤ v.toNat), z := decide (v.toNat = 0) } := by
  have hs : v.msb = decide (128 ≤ v.toNat) := BitVec.msb_eq_decide v
  have hz : (v == 0#8) = decide (v.toNat = 0) := by simp [BitVec.toNat_eq, Bool.beq_eq_decide_eq]
  rw [moveFlags, hs, hz]

theorem ldAXpc_completes (s : State) : ByteSet .ldAXpc s true s.altd .a s.xpc :=
  completes_of_exec { altd := true, priv := true } rfl (dst8_keeps ⟨s.altd, none⟩ .a s.xpc)
    ⟨get_dst8 ⟨s.altd, none⟩ .a s.xpc s, memKept_of_mem (dst8_mem ..)⟩

/-- Settles O37, move by move: the frame of the register written and, for IIR and EIR to A, the flags of the byte. -/
theorem controlRegisterMoves : Obligations.ControlRegisterMoves := fun s =>
  ⟨ldAXpc_completes s, completes_of_exec { priv := true } rfl (keeps_xpc _) ⟨rfl, memKept_of_mem rfl⟩,
    completes_of_exec {} rfl (keeps_iir _) ⟨rfl, memKept_of_mem rfl⟩,
    completes_of_exec {} rfl (keeps_eir _) ⟨rfl, memKept_of_mem rfl⟩,
    moveFlags_eq s.iir ▸ dst8_setFlags_completes (v := State.iir) (f := fun s => moveFlags s.iir) rfl,
    moveFlags_eq s.eir ▸ dst8_setFlags_completes (v := State.eir) (f := fun s => moveFlags s.eir) rfl⟩

/-! ### The word on top of the stack -/

/-- What stands in memory does not depend on the registers. -/
theorem twoBytes_of_mem {p q : PhysAddr} {v w : Byte} (hmem : t.mem = u.mem) (hu : TwoBytes p q v w s u) :
    TwoBytes p q v w s t := by
  have hbyte : ∀ a, t.physByte a = u.physByte a := memKept_of_mem hmem
  simpa only [TwoBytes, MemKeptOutside, hbyte] using hu

theorem twoBytes_memWrite16 (a w : Word) (s : State) :
    TwoBytes (s.phys a) (s.phys (a + 1)) (lo w) (hi w) s (memWrite16 a w s) :=
  twoBytes_physWrite (s.phys a) (s.phys (a + 1)) (lo w) (hi w) s

/-- The pushed bytes stand as they were written, the high one first (41_move_exchange_stack.md R201). -/
theorem pushedWord_push16 (w : Word) (s : State) : PushedWord w s (push16 w s) :=
  ⟨rfl, twoBytes_physWrite (s.phys (s.sp - 1)) (s.phys (s.sp - 2)) (hi w) (lo w) s⟩

theorem memRead16_of_bytes {a : Word} (hl : s.byteAt a = some l) (hh : s.byteAt (a + 1) = some h) :
    memRead16 a s = .ok (h ++ l) := memRead16_ok.2 ⟨l, h, hl, hh, rfl⟩

/-- With or without an ALTD mark; IX and IY lie in no bank, so that the mark makes no difference there. -/
theorem exchangeTop_completes {r : WordReg} (x : Bool)
    (he : exec i s = perform { altd := x } (exchangeTop r) s) : ExchangesTop i s (x && s.altd) r := by
  intro l h hl hh
  rw [← read_eq_wordIn]
  have hbody : exchangeTop r ⟨x && s.altd, none⟩ s =
      .ok (r.dst ⟨x && s.altd, none⟩ (h ++ l) (memWrite16 s.sp (r.read s) s)) :=
    exchangeTop_ok.2 ⟨_, memRead16_of_bytes hl hh, rfl⟩
  exact completes_of_exec { altd := x } (he.trans (perform_next.2 ⟨_, hbody, rfl⟩)) (exchangeTop_keeps hbody)
    ⟨wordIn_dst ⟨x && s.altd, none⟩ r _ _, twoBytes_of_mem (wordDst_mem ..) (twoBytes_memWrite16 s.sp (r.read s) s)⟩

/-- Settles O45: the three forms go through the same body, whose register and ALTD mark differ. -/
theorem exchangeTopOfStack : Obligations.ExchangeTopOfStack := fun _ =>
  ⟨exchangeTop_completes true rfl, exchangeTop_completes false rfl, exchangeTop_completes false rfl⟩

/-! ### PUSH and POP -/

theorem pushWord_completes {r : WordReg} (he : exec i s = perform {} (pushWord r) s) :
    Completes i s false none [.sp] fun t => PushedWord (wordIn false s r) s t := by
  rw [← read_eq_wordIn]
  exact completes_of_exec {} he (push16_keeps _) (pushedWord_push16 (r.read s) s)

/-- With or without an ALTD mark, as for `exchangeTop_completes`. -/
theorem popWord_completes {r : WordReg} (x : Bool) (he : exec i s = perform { altd := x } (popWord r) s)
    (hr : .sp ≠ r) (hl : s.byteAt s.sp = some l) (hh : s.byteAt (s.sp + 1) = some h) :
    Completes i s false none (.sp :: wordPieces (x && s.altd) r) fun t =>
      wordIn (x && s.altd) t r = h ++ l ∧ t.sp = s.sp + 2 ∧ MemKept s t := by
  have hbody : popWord r ⟨x && s.altd, none⟩ s = .ok (r.dst ⟨x && s.altd, none⟩ (h ++ l) { s with sp := s.sp + 2 }) :=
    popWord_ok.2 ⟨_, memRead16_of_bytes hl hh, rfl⟩
  exact completes_of_exec { altd := x } (he.trans (perform_next.2 ⟨_, hbody, rfl⟩)) (popWord_keeps hbody)
    ⟨wordIn_dst ⟨x && s.altd, none⟩ r _ _, read_dst_other hr ⟨x && s.altd, none⟩ _ { s with sp := s.sp + 2 },
      memKept_of_mem (wordDst_mem ..)⟩

/-- The PUSH of each of the six words. -/
theorem push_completes (s : State) : ∀ x ∈ stackWords,
    Completes x.1 s false none [.sp] fun t => PushedWord (wordIn false s x.2.2) s t := by
  simp only [stackWords, List.forall_mem_cons, List.not_mem_nil, false_imp_iff, implies_true, and_true]
  exact ⟨pushWord_completes rfl, pushWord_completes rfl, pushWord_completes rfl, pushWord_completes rfl,
    pushWord_completes rfl, pushWord_completes rfl⟩

/-- The POP of each of the six words. -/
theorem pop_completes (hl : s.byteAt s.sp = some l) (hh : s.byteAt (s.sp + 1) = some h) : ∀ x ∈ stackWords,
    Completes x.2.1 s false none (.sp :: wordPieces s.altd x.2.2) fun t =>
      wordIn s.altd t x.2.2 = h ++ l ∧ t.sp = s.sp + 2 ∧ MemKept s t := by
  simp only [stackWords, List.forall_mem_cons, List.not_mem_nil, false_imp_iff, implies_true, and_true]
  exact ⟨popWord_completes false (r := .ix) rfl nofun hl hh, popWord_completes false (r := .iy) rfl nofun hl hh,
    popWord_completes true rfl nofun hl hh, popWord_completes true rfl nofun hl hh,
    popWord_completes true rfl nofun hl hh, popWord_completes true rfl nofun hl hh⟩

theorem pushIp_completes (s : State) : Completes .pushIp s false none [.sp] fun t =>
    t.sp = s.sp - 1 ∧ StoredByte none (s.sp - 1) s.ip s t :=
  completes_of_exec {} rfl (push8_keeps s.ip) ⟨rfl, storedByte_dstWrite ⟨false, none⟩ (s.sp - 1) s.ip s⟩

theorem exec_popIp {v : Byte} (hv : s.byteAt s.sp = some v) :
    exec .popIp s = .next (complete { priv := true } s { s with sp := s.sp + 1, ip := v }) := by
  have hpop : pop8 s = .ok (v, { s with sp := s.sp + 1 }) := pop8_ok.2 ⟨hv, rfl⟩
  show execPopIp s = _
  simp only [execPopIp, perform, hpop, ok_bind]

theorem popIp_completes {v : Byte} (hv : s.byteAt s.sp = some v) :
    Completes .popIp s true none [.sp, .ip] fun t => t.ip = v ∧ t.sp = s.sp + 1 ∧ MemKept s t :=
  completes_of_exec { priv := true } (exec_popIp hv) ((keeps_sp (s.sp + 1)).trans (keeps_ip v))
    ⟨rfl, rfl, memKept_of_mem rfl⟩

/-- Settles O46: the statement's two lists are the six words of the stack with their PUSH and with their POP. -/
theorem pushPop : Obligations.PushPop := fun s =>
  ⟨(List.forall_mem_map (l := stackWords) (f := fun x => (x.1, x.2.2))).2 (push_completes s), pushIp_completes s,
    fun _ _ hl hh => (List.forall_mem_map (l := stackWords) (f := fun x => x.2)).2 (pop_completes hl hh),
    fun _ => popIp_completes⟩

/-! ### PUSH, then POP -/

/-- Translation depends on XPC and the MMU state only (20_memory.md R74). -/
theorem phys_eq_of_keeps {L : List Piece} (hk : Keeps L s t) (hx : .xpc ∉ L) (hm : .mmu ∉ L) (a : Word) :
    t.phys a = s.phys a := by
  have hxpc : t.xpc = s.xpc := hk .xpc hx
  have hmmu : t.mmu = s.mmu := hk .mmu hm
  rw [State.phys, State.phys, hxpc, hmmu]

/-- The bytes of a pushed word, as a POP reads them: each is there, since the two lie apart. -/
theorem bytes_of_pushedWord {w : Word} (hw : PushedWord w s t) (hphys : ∀ a, t.phys a = s.phys a)
    (hapart : s.phys (s.sp - 1) ≠ s.phys (s.sp - 2)) :
    t.byteAt t.sp = some (lo w) ∧ t.byteAt (t.sp + 1) = some (hi w) := by
  obtain ⟨hsp, hlow, hhigh, -⟩ := hw
  have hnext : t.sp + 1 = s.sp - 1 := by rw [hsp]; bv_omega
  exact ⟨by rw [State.byteAt, hphys, hsp]; exact hlow, by rw [State.byteAt, hphys, hnext]; exact hhigh hapart⟩

/-- Settles O47: PUSH leaves the latches clear and the translation as it was, so that POP reads both bytes into the main
bank. -/
theorem pushThenPop : Obligations.PushThenPop := by
  intro s hapart x hx y hy
  obtain ⟨t, ht, hkeeps, ⟨haltd, -⟩, hpushed⟩ := push_completes s x hx
  obtain ⟨hl, hh⟩ := bytes_of_pushedWord hpushed (phys_eq_of_keeps hkeeps (by simp) (by simp)) hapart
  obtain ⟨u, hu, -, -, hword, husp, -⟩ := pop_completes hl hh y hy
  rw [haltd] at hword
  have hback : u.sp = s.sp := by rw [husp, hpushed.1]; bv_omega
  exact ⟨t, u, ht, hu, hword.trans (pair_hi_lo _), hback⟩

end Sys2Proof.Proofs
end

section
/-! PROOFS. The flag formulas of addition, subtraction and logic in the words of the statements, for every width. -/

namespace Sys2Proof.Proofs

open Sys2Proof.Machine Sys2Proof.Claims

variable {n : Nat}

/-! ### Sign, zero and the logical check -/

theorem beq_zero_eq_decide (x : BitVec n) : (x == 0#n) = decide (x.toNat = 0) := by
  simp [BitVec.toNat_eq, Bool.beq_eq_decide_eq]

/-- A bit among the top four is set exactly where the number reaches the lowest of them. -/
theorem logicL_eq_decide (hn : 4 ≤ n) (x : BitVec n) : logicL x = decide (2 ^ (n - 4) ≤ x.toNat) := by
  have hpow : 2 ^ n = 2 ^ (n - 4) * 16 := by rw [show 16 = 2 ^ 4 from rfl, ← Nat.pow_add, Nat.sub_add_cancel hn]
  have htop : x.toNat / 2 ^ (n - 4) < 16 := Nat.div_lt_of_lt_mul (hpow ▸ x.isLt)
  have hfield : (x.extractLsb' (n - 4) 4).toNat = x.toNat / 2 ^ (n - 4) := by
    rw [BitVec.extractLsb'_toNat, Nat.shiftRight_eq_div_pow, Nat.mod_eq_of_lt htop]
  rw [logicL, bne, beq_zero_eq_decide, hfield, ← decide_not]
  exact decide_eq_decide.2 (by simp [Nat.div_eq_zero_iff])

theorem logicFlags_eq_logicRef (hn : 4 ≤ n) (x : BitVec n) (c : Bool) : logicFlags x c = logicRef x c := by
  rw [logicFlags, logicRef, BitVec.msb_eq_toInt, beq_zero_eq_decide, logicL_eq_decide hn]

/-! ### Addition and subtraction -/

/-- An exact result of at most one bit more than `n` fits exactly where the sign of its `n` bits is its own. -/
theorem fits_eq_msb_beq_neg (hn : 0 < n) {e : Int} (hlow : -2 ^ n ≤ e) (hhigh : e < 2 ^ n) :
    fits n e = ((BitVec.ofInt n e).msb == decide (e < 0)) := by
  have hpow := mul_pow_sub_one hn.ne' (2 : Int)
  have hcast : ((2 ^ n : Nat) : Int) = 2 * 2 ^ (n - 1) := by rw [hpow]; norm_cast
  rw [Bool.eq_iff_iff, fits, BitVec.msb_eq_toInt, BitVec.toInt_ofInt]
  simp only [Bool.and_eq_true, decide_eq_true_eq, beq_iff_eq, decide_eq_decide]
  rcases lt_or_ge e (-2 ^ (n - 1)) with hbelow | hge
  · have hwrap : e.bmod (2 ^ n) = e + 2 * 2 ^ (n - 1) := by
      rw [← Int.add_bmod_right, hcast, Int.bmod_eq_of_le_mul_two (by omega) (by omega)]
    omega
  · rcases lt_or_ge e (2 ^ (n - 1)) with hlt | habove
    · have hsame : e.bmod (2 ^ n) = e := Int.bmod_eq_of_le_mul_two (by omega) (by omega)
      omega
    · have hwrap : e.bmod (2 ^ n) = e - 2 * 2 ^ (n - 1) := by
        rw [← Int.sub_bmod_right, hcast, Int.bmod_eq_of_le_mul_two (by omega) (by omega)]
      omega

/-- Overflow as a rule about signs: where `p` holds, `q` is the sign of the exact result, and elsewhere that fits. -/
theorem overflow_eq_not_fits (hn : 0 < n) {e : Int} (hlow : -2 ^ n ≤ e) (hhigh : e < 2 ^ n) {p q : Bool}
    (hsign : p = true → decide (e < 0) = q) (hfits : p = false → fits n e = true) :
    (p && ((BitVec.ofInt n e).msb != q)) = !fits n e := by
  cases p with
  | true => rw [fits_eq_msb_beq_neg hn hlow hhigh, hsign rfl, Bool.true_and]; rfl
  | false => rw [hfits rfl]; rfl

theorem fits_of_bounds {e : Int} (hlow : -2 ^ (n - 1) ≤ e) (hhigh : e < 2 ^ (n - 1)) : fits n e = true := by
  rw [fits, decide_eq_true hlow, decide_eq_true hhigh]
  rfl

/-- Modulo `2 ^ n` it makes no difference whether the operands are read as signed numbers. -/
theorem addN_res_eq_ofInt (a b : BitVec n) (c : Bool) :
    (addN a b c).res = BitVec.ofInt n (a.toInt + b.toInt + c.toNat) := by
  simp [addN, BitVec.ofNat_add, BitVec.ofInt_add]

theorem subN_res_eq_ofInt (a b : BitVec n) (c : Bool) :
    (subN a b c).res = BitVec.ofInt n (a.toInt - b.toInt - c.toNat) := by
  simp [subN, Int.sub_eq_add_neg, BitVec.ofInt_add, BitVec.ofInt_neg]

/-- V of an addition: operands of one sign give a result of that sign, or it does not fit. -/
theorem addN_v_eq_not_fits (hn : 0 < n) (a b : BitVec n) (c : Bool) :
    (addN a b c).v = !fits n (a.toInt + b.toInt + c.toNat) := by
  have hc := c.toNat_le
  have hpow := mul_pow_sub_one hn.ne' (2 : Int)
  have ha := a.le_toInt
  have hb := b.le_toInt
  have ha' := a.toInt_lt
  have hb' := b.toInt_lt
  show ((a.msb == b.msb) && ((addN a b c).res.msb != a.msb)) = _
  rw [addN_res_eq_ofInt]
  apply overflow_eq_not_fits hn (by omega) (by omega)
  · intro h
    simp only [BitVec.msb_eq_toInt, beq_iff_eq, decide_eq_decide] at h ⊢
    omega
  · intro h
    simp only [BitVec.msb_eq_toInt, beq_eq_false_iff_ne, ne_eq, decide_eq_decide] at h
    exact fits_of_bounds (by omega) (by omega)

/-- V of a subtraction: operands of two signs give a result of the first one's, or it does not fit. -/
theorem subN_v_eq_not_fits (hn : 0 < n) (a b : BitVec n) (c : Bool) :
    (subN a b c).v = !fits n (a.toInt - b.toInt - c.toNat) := by
  have hc := c.toNat_le
  have hpow := mul_pow_sub_one hn.ne' (2 : Int)
  have ha := a.le_toInt
  have hb := b.le_toInt
  have ha' := a.toInt_lt
  have hb' := b.toInt_lt
  show ((a.msb != b.msb) && ((subN a b c).res.msb != a.msb)) = _
  rw [subN_res_eq_ofInt]
  apply overflow_eq_not_fits hn (by omega) (by omega)
  · intro h
    simp only [BitVec.msb_eq_toInt, bne_iff_ne, ne_eq, decide_eq_decide] at h ⊢
    omega
  · intro h
    simp only [BitVec.msb_eq_toInt, bne_eq_false_iff_eq, decide_eq_decide] at h
    exact fits_of_bounds (by omega) (by omega)

/-- The four flags of an addition. -/
theorem addN_all_eq_addRef (hn : 0 < n) (a b : BitVec n) (c : Bool) : (addN a b c).all = (addRef a b c).2 := by
  have hs : (addN a b c).s = decide ((addN a b c).res.toInt < 0) := BitVec.msb_eq_toInt
  have hz : (addN a b c).z = decide ((addN a b c).res.toNat = 0) := beq_zero_eq_decide _
  rw [Arith.all, hs, hz, addN_v_eq_not_fits hn]
  rfl

/-- The borrow of a subtraction: the first operand is less than what is taken off. -/
theorem subN_c_eq_decide (a b : BitVec n) (c : Bool) : (subN a b c).c = decide (a.toNat < b.toNat + c.toNat) :=
  decide_eq_decide.2 (by omega)

/-- The four flags of a subtraction. -/
theorem subN_all_eq_subRef (hn : 0 < n) (a b : BitVec n) (c : Bool) : (subN a b c).all = (subRef a b c).2 := by
  have hs : (subN a b c).s = decide ((subN a b c).res.toInt < 0) := BitVec.msb_eq_toInt
  have hz : (subN a b c).z = decide ((subN a b c).res.toNat = 0) := beq_zero_eq_decide _
  rw [Arith.all, hs, hz, subN_v_eq_not_fits hn, subN_c_eq_decide]
  rfl

end Sys2Proof.Proofs
end

section
/-! PROOFS. The 16-bit arithmetic, logic and rotates, group I: a word register and flags written to the bank that ALTD
chooses. -/

namespace Sys2Proof.Proofs

open Sys2Proof.Machine Sys2Proof.Claims

variable {i : Instr} {s : State} {r : WordReg}

/-! ### A word register and flags -/

/-- Only AF has the flags in it. -/
theorem wordIn_setFlags (hr : r ≠ .pair .af) (c : Ctx) (w : FlagWrite) (s : State) :
    wordIn c.alt (setFlags c w s) r = wordIn c.alt s r := by
  obtain ⟨x, io⟩ := c
  cases x <;> rcases r with (_ | _ | _ | _) | _ | _ | _ <;> first | rfl | exact absurd rfl hr

theorem f_wordDst (hr : r ≠ .pair .af) (c : Ctx) (w : Word) (s : State) :
    (bankOf c.alt (r.dst c w s)).f = (bankOf c.alt s).f := by
  obtain ⟨x, io⟩ := c
  cases x <;> rcases r with (_ | _ | _ | _) | _ | _ | _ <;> first | rfl | exact absurd rfl hr

/-- A word register other than AF, and flags, written to the bank that ALTD chooses. -/
theorem setWordFlags_completes {w : State → Word} {f : State → FlagWrite} (hr : r ≠ .pair .af)
    (he : exec i s = perform { altd := true } (setWordFlags r w f) s) : WordOp i s r (w s) (f s) := by
  have hflags : FlagsBecome (f s) (bankOf s.altd s).f
      (bankOf s.altd (setFlags ⟨s.altd, none⟩ (f s) (r.dst ⟨s.altd, none⟩ (w s) s))).f := by
    rw [bankOf_setFlags ⟨s.altd, none⟩, setFlags_f, f_wordDst hr ⟨s.altd, none⟩]
    exact flagsBecome_applyFlags (f s) _
  exact completes_of_exec { altd := true } he
    (((wordDst_keeps ⟨s.altd, none⟩ r (w s)).trans (setFlags_keeps ⟨s.altd, none⟩ (f s))).mono (by simp))
    ⟨(wordIn_setFlags hr ⟨s.altd, none⟩ _ _).trans (wordIn_dst ⟨s.altd, none⟩ r (w s) s), hflags,
      memKept_of_mem ((setFlags_mem ..).trans (wordDst_mem ..))⟩

/-! ### ADC, SBC and ADD -/

theorem addAll_completes {a b : State → Word} {c : State → Bool} (hr : r ≠ .pair .af)
    (he : exec i s = perform { altd := true } (arith16 r (fun s => addN (a s) (b s) (c s)) Arith.all) s) :
    WordOp i s r (addRef (a s) (b s) (c s)).1 (addRef (a s) (b s) (c s)).2 :=
  addN_all_eq_addRef (by decide) (a s) (b s) (c s) ▸ setWordFlags_completes hr he

theorem subAll_completes {a b : State → Word} {c : State → Bool} (hr : r ≠ .pair .af)
    (he : exec i s = perform { altd := true } (arith16 r (fun s => subN (a s) (b s) (c s)) Arith.all) s) :
    WordOp i s r (subRef (a s) (b s) (c s)).1 (subRef (a s) (b s) (c s)).2 :=
  subN_all_eq_subRef (by decide) (a s) (b s) (c s) ▸ setWordFlags_completes hr he

theorem addOnlyC_completes {a b : State → Word} (hr : r ≠ .pair .af)
    (he : exec i s = perform { altd := true } (arith16 r (fun s => addN (a s) (b s) false) Arith.onlyC) s) :
    WordOp i s r (addRef (a s) (b s) false).1 { c := (addRef (a s) (b s) false).2.c } :=
  setWordFlags_completes hr he

/-- The sign-extended addend of ADD SP,d adds the signed number of the stored byte (log 23). -/
theorem addRef_sext16 (w : Word) (d : Byte) :
    (addRef w (d.signExtend 16) false).1 = BitVec.ofInt 16 (w.toNat + d.toInt) := by
  have hd : BitVec.ofInt 16 d.toInt = d.signExtend 16 := by
    rw [← BitVec.toInt_signExtend_of_le (v := 16) (by decide), BitVec.ofInt_toInt]
  rw [BitVec.ofInt_add, hd]
  simp [addRef, BitVec.ofNat_add]

/-- Settles O32: every form goes through `arith16`, and only ADC and SBC take all four flags of it. -/
theorem wordAddSubtract : Obligations.WordAddSubtract := by
  intro s
  simp only [← read_eq_wordIn]
  exact ⟨fun ss => addAll_completes (a := State.hl) (b := (ssReg ss).read) (c := State.cf) nofun rfl,
    fun ss => subAll_completes (a := State.hl) (b := (ssReg ss).read) (c := State.cf) nofun rfl,
    fun ss => addOnlyC_completes (a := State.hl) (b := (ssReg ss).read) nofun rfl,
    fun xx => addOnlyC_completes (a := State.ix) (b := (xxReg xx).read) nofun rfl,
    fun yy => addOnlyC_completes (a := State.iy) (b := (yyReg yy).read) nofun rfl,
    fun d => addRef_sext16 s.sp d ▸ addOnlyC_completes (a := State.sp) (b := fun _ => sext16 d) nofun rfl⟩

/-! ### AND, OR and BOOL -/

theorem logic16_completes {w : State → Word} (hr : r ≠ .pair .af)
    (he : exec i s = perform { altd := true } (logic16 r w) s) : WordOp i s r (w s) (logicRef (w s) false) :=
  logicFlags_eq_logicRef (by decide) (w s) false ▸ setWordFlags_completes hr he

theorem boolValue_eq (w : Word) : boolValue w = BitVec.ofNat 16 (if w.toNat = 0 then 0 else 1) := by
  have hzero : w = 0 ↔ w.toNat = 0 := BitVec.toNat_inj.symm
  simp only [boolValue, hzero]
  split <;> rfl

/-- The truth value is never negative, and zero exactly where the word is. -/
theorem boolFlags_boolValue (w : Word) :
    boolFlags (boolValue w) = { s := false, z := decide (w.toNat = 0), lv := false, c := false } := by
  rw [boolValue_eq, boolFlags]
  split <;> simp [*]

theorem boolWord_completes (hr : r ≠ .pair .af) (he : exec i s = perform { altd := true } (boolWord r) s) :
    WordOp i s r (BitVec.ofNat 16 (if (r.read s).toNat = 0 then 0 else 1))
      { s := false, z := decide ((r.read s).toNat = 0), lv := false, c := false } :=
  boolValue_eq (r.read s) ▸ boolFlags_boolValue (r.read s) ▸ setWordFlags_completes hr he

/-- AND with DE, OR with DE and BOOL of one word register. -/
theorem wordLogic_completes {iAnd iOr iBool : Instr} (hr : r ≠ .pair .af)
    (hand : exec iAnd s = perform { altd := true } (logic16 r (fun s => r.read s &&& s.de)) s)
    (hor : exec iOr s = perform { altd := true } (logic16 r (fun s => r.read s ||| s.de)) s)
    (hbool : exec iBool s = perform { altd := true } (boolWord r) s) :
    WordOp iAnd s r (r.read s &&& s.de) (logicRef (r.read s &&& s.de) false) ∧
      WordOp iOr s r (r.read s ||| s.de) (logicRef (r.read s ||| s.de) false) ∧
      WordOp iBool s r (BitVec.ofNat 16 (if (r.read s).toNat = 0 then 0 else 1))
        { s := false, z := decide ((r.read s).toNat = 0), lv := false, c := false } :=
  ⟨logic16_completes hr hand, logic16_completes hr hor, boolWord_completes hr hbool⟩

/-- Settles O33: HL, IX and IY differ only in the register. -/
theorem wordLogic : Obligations.WordLogic := by
  intro s
  simp only [← read_eq_wordIn, List.forall_mem_cons, List.not_mem_nil, false_imp_iff, implies_true, and_true]
  exact ⟨wordLogic_completes nofun rfl rfl rfl, wordLogic_completes nofun rfl rfl rfl,
    wordLogic_completes nofun rfl rfl rfl⟩

/-! ### RL and RR -/

theorem rotateLeft16_eq (w : Word) (cf : Bool) : rotateLeft16 w cf = BitVec.ofNat 16 (2 * w.toNat + cf.toNat) := by
  apply BitVec.eq_of_toNat_eq
  simp only [rotateLeft16, toNat_adjoin, BitVec.extractLsb'_toNat, BitVec.toNat_ofBool, BitVec.toNat_ofNat]
  have hcf := cf.toNat_le
  omega

theorem rotateRight16_eq (w : Word) (cf : Bool) :
    rotateRight16 w cf = BitVec.ofNat 16 (w.toNat / 2 + 32768 * cf.toNat) := by
  apply BitVec.eq_of_toNat_eq
  simp only [rotateRight16, toNat_adjoin, BitVec.extractLsb'_toNat, BitVec.toNat_ofBool, BitVec.toNat_ofNat]
  have hcf := cf.toNat_le
  omega

/-- The bit that a rotation to the left moves out. -/
theorem topBit_eq_decide (w : Word) : w.getLsbD 15 = decide (32768 ≤ w.toNat) := BitVec.msb_eq_decide w

/-- The bit that a rotation to the right moves out. -/
theorem lowBit_eq_decide (w : Word) : w.getLsbD 0 = decide (w.toNat % 2 = 1) := Nat.testBit_zero w.toNat

theorem rlDe_completes (s : State) :
    WordOp .rlDe s (.pair .de) (BitVec.ofNat 16 (2 * s.de.toNat + s.cf.toNat))
      (logicRef (BitVec.ofNat 16 (2 * s.de.toNat + s.cf.toNat)) (decide (32768 ≤ s.de.toNat))) := by
  rw [← rotateLeft16_eq, ← topBit_eq_decide, ← logicFlags_eq_logicRef (by decide)]
  exact setWordFlags_completes (w := fun s => rotateLeft16 s.de s.cf)
    (f := fun s => logicFlags (rotateLeft16 s.de s.cf) (s.de.getLsbD 15)) nofun rfl

theorem rotateRightWord_completes (hr : r ≠ .pair .af)
    (he : exec i s = perform { altd := true } (rotateRightWord r) s) :
    WordOp i s r (BitVec.ofNat 16 ((r.read s).toNat / 2 + 32768 * s.cf.toNat))
      (logicRef (BitVec.ofNat 16 ((r.read s).toNat / 2 + 32768 * s.cf.toNat))
        (decide ((r.read s).toNat % 2 = 1))) := by
  rw [← rotateRight16_eq, ← lowBit_eq_decide, ← logicFlags_eq_logicRef (by decide)]
  exact setWordFlags_completes hr he

/-- Settles O34: the rotations as numbers, RR through one body for its four registers. -/
theorem wordRotates : Obligations.WordRotates := by
  intro s
  simp only [← read_eq_wordIn, List.forall_mem_cons, List.not_mem_nil, false_imp_iff, implies_true, and_true]
  exact ⟨rlDe_completes s, rotateRightWord_completes nofun rfl, rotateRightWord_completes nofun rfl,
    rotateRightWord_completes nofun rfl, rotateRightWord_completes nofun rfl⟩

/-! ### INC, DEC and MUL -/

theorem ofNat_toNat_add_one (w : Word) : BitVec.ofNat 16 (w.toNat + 1) = w + 1 := by
  simp [BitVec.ofNat_add]

/-- Modulo 2^16, adding 65535 takes one off. -/
theorem ofNat_toNat_add_max (w : Word) : BitVec.ofNat 16 (w.toNat + 65535) = w - 1 := by
  bv_omega

theorem toInt_mulSigned (x y : Word) : (mulSigned x y).toInt = x.toInt * y.toInt :=
  BitVec.toInt_ofInt_eq_self (by decide) (Int.le_trans (by decide) BitVec.le_toInt_mul_toInt)
    (Int.lt_of_le_of_lt BitVec.toInt_mul_toInt_le (by decide))

/-- The halves of a 32-bit number, put together again. -/
theorem adjoin_halves (p : BitVec 32) : p.extractLsb' 16 16 ++ p.extractLsb' 0 16 = p := by
  apply BitVec.eq_of_toNat_eq
  simp only [toNat_adjoin, BitVec.extractLsb'_toNat]
  omega

/-- HL gets the high word of the product and BC the low one (42_arith16.md R272). -/
theorem mul_completes (s : State) : Completes .mul s false none [.main .b, .main .c, .main .h, .main .l] fun t =>
    (wordIn false t (.pair .hl) ++ wordIn false t (.pair .bc)).toInt = s.bc.toInt * s.de.toInt ∧ MemKept s t := by
  have hkeeps := ((wordDst_keeps ⟨false, none⟩ (.pair .hl) ((mulSigned s.bc s.de).extractLsb' 16 16) (s := s)).trans
    (wordDst_keeps ⟨false, none⟩ (.pair .bc) ((mulSigned s.bc s.de).extractLsb' 0 16))).mono
      (M := [.main .b, .main .c, .main .h, .main .l]) (by simp [wordPieces, regPiece])
  refine completes_of_exec {} rfl hkeeps ⟨?_, memKept_of_mem rfl⟩
  rw [← toInt_mulSigned]
  exact congrArg BitVec.toInt ((congrArg₂ (· ++ ·) (pair_hi_lo _) (pair_hi_lo _)).trans (adjoin_halves _))

/-- Settles O35: INC and DEC through `setWord`, those of `ss` behind the refusal of ALTD with a destination SP. -/
theorem wordIncDecMultiply : Obligations.WordIncDecMultiply := by
  intro s
  simp only [← read_eq_wordIn, ofNat_toNat_add_one, ofNat_toNat_add_max]
  exact ⟨setWord_completes false (f := fun s => s.ix + 1) rfl, setWord_completes false (f := fun s => s.iy + 1) rfl,
    setWord_completes false (f := fun s => s.ix - 1) rfl, setWord_completes false (f := fun s => s.iy - 1) rfl,
    fun ss h => ⟨setWord_completes true (f := fun s => (ssReg ss).read s + 1) (withAlternate_run h),
      setWord_completes true (f := fun s => (ssReg ss).read s - 1) (withAlternate_run h)⟩,
    fun h => ⟨withAlternate_refused.2 ⟨⟨rfl, h⟩, rfl⟩, withAlternate_refused.2 ⟨⟨rfl, h⟩, rfl⟩⟩,
    mul_completes s⟩

end Sys2Proof.Proofs
end

section
/-! PROOFS. The 8-bit arithmetic and logic, groups J, L and M, and the two instructions on the carry flag: the operand
is read, then a result and flags are written to the bank that ALTD chooses. -/

namespace Sys2Proof.Proofs

open Sys2Proof.Machine Sys2Proof.Claims

variable {i : Instr} {s t u : State} {c : Ctx} {a : Word} {v x : Byte} {sel : Option IoSpace}

/-! ### Places and selections -/

/-- The addressing mode of a place. -/
def placeMode : Place → MemAt
  | .hl => .hl
  | .ixd d => .ixd d
  | .iyd d => .iyd d

theorem placeMode_addr (p : Place) (s : State) : (placeMode p).addr s = p.addr s := by cases p <;> rfl

/-- What the latches select for a form with an ALTD mark and an I/O mark, one of the twelve forms or not. -/
theorem ctx_eq_altd_space (bug : Bool) (s : State) :
    Marks.ctx { altd := true, io := true, bug := bug } s = ⟨s.altd, space bug s⟩ := by
  have hio : (Marks.ctx { altd := true, io := true, bug := bug } s).io = space bug s := ctx_io_eq_space rfl
  rw [← hio]
  rfl

/-! ### The banks and memory around a read and around a write of flags -/

theorem bankOf_srcRead (h : srcRead c a s = .ok (x, u)) (alt : Bool) : bankOf alt u = bankOf alt s := by
  obtain ⟨-, _, _, _, rfl⟩ := srcRead_shape h
  rfl

theorem bankOf_byteSrc {o : ByteSrc} (h : o.read c s = .ok (x, u)) (alt : Bool) : bankOf alt u = bankOf alt s := by
  obtain ⟨q, -, e⟩ | ⟨n, -, e⟩ | ⟨m, -, h⟩ := byteSrc_ok.1 h
  · cases e
    rfl
  · cases e
    rfl
  · exact bankOf_srcRead h alt

theorem bankOf_dstWrite (c : Ctx) (a : Word) (v : Byte) (s : State) (alt : Bool) :
    bankOf alt (dstWrite c a v s) = bankOf alt s := by
  simp only [bankOf, dstWrite_main, dstWrite_alt]

theorem around_setFlags (c : Ctx) (w : FlagWrite) (s : State) : around (setFlags c w s) = around s := by simp [around]

theorem flagsBecome_setFlags (c : Ctx) (w : FlagWrite) (s : State) :
    FlagsBecome w (bankOf c.alt s).f (bankOf c.alt (setFlags c w s)).f := by
  rw [bankOf_setFlags, setFlags_f]
  exact flagsBecome_applyFlags w _

/-- Only flags, written to the bank that ALTD chooses. -/
theorem setFlags_completes {f : State → FlagWrite}
    (he : exec i s = perform { altd := true } (fun c s => .ok (setFlags c (f s) s)) s) : FlagOp i s (f s) :=
  completes_of_exec { altd := true } he (setFlags_keeps ⟨s.altd, none⟩ (f s))
    ⟨flagsBecome_setFlags ⟨s.altd, none⟩ (f s) s, memKept_of_mem (setFlags_mem ..)⟩

/-! ### The accumulator operations -/

theorem aluFlags_eq_aluRef (op : AluOp) (x v : Byte) (cf : Bool) : op.flags x v cf = (aluRef op x v cf).2 := by
  cases op with
  | add | adc => exact addN_all_eq_addRef (by decide) x v _
  | sub | sbc | cp => exact subN_all_eq_subRef (by decide) x v _
  | and | xor | or => exact logicFlags_eq_logicRef (by decide) _ false

/-- CP computes a difference that it writes nowhere (43_arith8.md R300). -/
theorem aluValue_eq_aluRef {op : AluOp} (hop : op ≠ .cp) (x v : Byte) (cf : Bool) :
    op.value x v cf = (aluRef op x v cf).1 := by
  cases op with
  | cp => exact absurd rfl hop
  | _ => rfl

/-- What the body of an accumulator operation answers once its operand is read: CP writes the flags alone. -/
theorem alu_answers (op : AluOp) {o : ByteSrc} (hr : o.read ⟨s.altd, sel⟩ s = .ok (v, u)) :
    ∃ t, alu op o ⟨s.altd, sel⟩ s = .ok t ∧ Keeps (readPieces sel ++ aluPieces op s) s t ∧ AluPost op v s t ∧
      around t = around u := by
  have hread : Keeps (readPieces sel) s u := byteSrc_keeps hr
  have hbank := bankOf_byteSrc hr s.altd
  have hmem := byteSrc_mem hr
  refine ⟨_, alu_ok.2 ⟨v, u, hr, rfl⟩, ?_⟩
  rw [AluPost, aluFlags_eq_aluRef, State.cf, aluPieces, ← hbank]
  by_cases hop : op = .cp
  · rw [if_pos hop, if_pos hop]
    exact ⟨hread.trans (setFlags_keeps ⟨s.altd, sel⟩ _),
      ⟨fun h => absurd hop h, flagsBecome_setFlags ⟨s.altd, sel⟩ _ u, memKept_of_mem ((setFlags_mem ..).trans hmem)⟩,
      around_setFlags ..⟩
  · rw [if_neg hop, if_neg hop, aluValue_eq_aluRef hop]
    exact ⟨hread.trans ((dst8_keeps ⟨s.altd, sel⟩ .a _).trans (setFlags_keeps ⟨s.altd, sel⟩ _)),
      ⟨fun _ => get_setFlags_dst8 ⟨s.altd, sel⟩ .a _ _ u, flagsBecome_setFlags_dst8 ⟨s.altd, sel⟩ .a _ _ u,
        memKept_of_mem ((setFlags_mem ..).trans ((dst8_mem ..).trans hmem))⟩,
      (around_setFlags ..).trans (around_dst8 ..)⟩

/-- An operand that no latch redirects: a register or a constant. -/
theorem alu_completes {op : AluOp} {o : ByteSrc} (he : exec i s = perform { altd := true } (alu op o) s)
    (hr : o.read ⟨s.altd, none⟩ s = .ok (v, s)) :
    Completes i s false none (aluPieces op s) fun t => AluPost op v s t := by
  obtain ⟨t, ht, hkeeps, hpost, -⟩ := alu_answers op hr
  exact completes_of_exec { altd := true } (he.trans (perform_next.2 ⟨t, ht, rfl⟩)) hkeeps hpost

theorem exec_aluReg (op : AluOp) (r : Reg8) (s : State) :
    exec (aluReg op r) s = perform { altd := true } (alu op (.reg r)) s := by cases op <;> rfl

theorem exec_aluImm (op : AluOp) (n : Byte) (s : State) :
    exec (aluImm op n) s = perform { altd := true } (alu op (.imm n)) s := by cases op <;> rfl

theorem exec_aluMem (op : AluOp) (p : Place) (s : State) :
    exec (aluMem op p) s =
      perform { altd := true, io := true, bug := p.isHl } (alu op (.mem (placeMode p))) s := by
  cases op <;> cases p <;> rfl

/-- Settles O24. -/
theorem accumulatorRegisterConstant : Obligations.AccumulatorRegisterConstant := fun op s =>
  ⟨fun r => alu_completes (exec_aluReg op r s) rfl, fun n => alu_completes (exec_aluImm op n s) rfl⟩

/-- Settles O25: the operand is one source access in the space that the latches select. -/
theorem accumulatorMemory : Obligations.AccumulatorMemory := by
  intro op p s v hv
  rw [← placeMode_addr] at hv ⊢
  obtain ⟨u, hu, haround⟩ := srcRead_of_sourceByte (c := ⟨s.altd, space p.isHl s⟩) hv
  obtain ⟨t, ht, hkeeps, hpost, hio⟩ := alu_answers op (o := .mem (placeMode p)) hu
  rw [← ctx_eq_altd_space] at ht
  exact completes_of_exec { altd := true, io := true, bug := p.isHl }
    ((exec_aluMem op p s).trans (perform_next.2 ⟨t, ht, rfl⟩)) (hkeeps.mono (readPieces_append_subset ..))
    ⟨hpost, hio.trans haround⟩

/-! ### NEG, CCF and SCF -/

/-- Settles O26: NEG is a subtraction from 0, the other two write C alone. -/
theorem negateAndCarryFlag : Obligations.NegateAndCarryFlag := fun s =>
  ⟨subN_all_eq_subRef (by decide) 0#8 s.main.a false ▸
      dst8_setFlags_completes (v := fun s => (subN 0#8 s.main.a false).res)
        (f := fun s => (subN 0#8 s.main.a false).all) rfl,
    setFlags_completes (f := fun s => { c := !s.cf }) rfl, setFlags_completes (f := fun _ => { c := true }) rfl⟩

/-! ### A byte changed in place -/

/-- A stored byte stays when only registers and flags change after it. -/
theorem storedByte_of_mem (hmem : t.mem = u.mem) (hu : StoredByte sel a v s u) : StoredByte sel a v s t := by
  have hbyte : ∀ p, t.physByte p = u.physByte p := memKept_of_mem hmem
  cases sel <;> simpa only [StoredByte, MemKept, MemKeptOutside, hbyte] using hu

/-- A byte stored where one was read: the read moved no byte and no address. -/
theorem storedByte_of_srcRead (hr : srcRead c a s = .ok (x, u)) : StoredByte c.io a v s (dstWrite c a v u) := by
  have hstored := storedByte_dstWrite c a v u
  cases hc : c.io with
  | none =>
    obtain rfl := (srcRead_shape hr).1 hc
    rwa [hc] at hstored
  | some sp =>
    rw [hc] at hstored
    exact fun p => (hstored p).trans (memKept_of_mem (srcRead_mem hr) p)

/-- What the body that changes a byte in place answers. -/
theorem modifyMem_answers {m : MemAt} (g : Byte → Byte) (f : Byte → FlagWrite)
    (hv : SourceByte c.io (m.addr s) v s) :
    ∃ t, modifyMem m g f c s = .ok t ∧ Keeps (flagPiece c.alt :: ioPieces) s t ∧
      StoredByte c.io (m.addr s) (g v) s t ∧ FlagsBecome (f v) (bankOf c.alt s).f (bankOf c.alt t).f ∧
        around t = ((around s).read c.io (m.addr s)).write c.io (m.addr s) (g v) := by
  obtain ⟨u, hu, haround⟩ := srcRead_of_sourceByte hv
  have hbody := modifyMem_ok (g := g) (f := f).2 ⟨v, u, hu, rfl⟩
  have hflags := flagsBecome_setFlags c (f v) (dstWrite c (m.addr s) (g v) u)
  rw [bankOf_dstWrite, bankOf_srcRead hu] at hflags
  refine ⟨_, hbody, (modifyMem_keeps hbody).mono ?_,
    storedByte_of_mem (setFlags_mem ..) (storedByte_of_srcRead hu), hflags, ?_⟩
  · have hreads := List.subset_cons_of_subset (flagPiece c.alt) (readPieces_subset c.io)
    have hwrites := List.subset_cons_of_subset (flagPiece c.alt) (writePieces_subset c.io)
    exact List.append_subset.2 ⟨List.append_subset.2 ⟨hreads, hwrites⟩, by simp⟩
  · rw [around_setFlags, around_dstWrite, haround]

/-- A byte in memory or I/O changed in place, by one of the twelve forms or not. -/
theorem modifyMem_completes {m : MemAt} {g : Byte → Byte} {f : Byte → FlagWrite} {bug : Bool}
    (he : exec i s = perform { altd := true, io := true, bug := bug } (modifyMem m g f) s) :
    ReadModifyWrite i s (space bug s) (m.addr s) g f := by
  intro v hv
  obtain ⟨t, ht, hkeeps, hpost⟩ := modifyMem_answers (c := ⟨s.altd, space bug s⟩) g f hv
  rw [← ctx_eq_altd_space] at ht
  exact completes_of_exec { altd := true, io := true, bug := bug } (he.trans (perform_next.2 ⟨t, ht, rfl⟩)) hkeeps hpost

/-! ### INC and DEC of a byte -/

theorem incValue_notC (v : Byte) : (incValue v).notC = (stepRef true v).2 :=
  congrArg (fun w : FlagWrite => { w with c := none }) (addN_all_eq_addRef (by decide) v 1#8 false)

theorem decValue_notC (v : Byte) : (decValue v).notC = (stepRef false v).2 :=
  congrArg (fun w : FlagWrite => { w with c := none }) (subN_all_eq_subRef (by decide) v 1#8 false)

theorem exec_stepReg (up : Bool) (r : Reg8) (s : State) :
    exec (stepReg up r) s =
      perform { altd := true } (modifyReg r (fun v => (stepRef up v).1) fun v => (stepRef up v).2) s := by
  cases up with
  | true =>
    simp only [← incValue_notC]
    rfl
  | false =>
    simp only [← decValue_notC]
    rfl

theorem exec_stepMem (up : Bool) (p : Place) (s : State) :
    exec (stepMem up p) s = perform { altd := true, io := true, bug := p.isHl }
      (modifyMem (placeMode p) (fun v => (stepRef up v).1) fun v => (stepRef up v).2) s := by
  cases up with
  | true =>
    simp only [← incValue_notC]
    cases p <;> rfl
  | false =>
    simp only [← decValue_notC]
    cases p <;> rfl

theorem stepMem_completes (up : Bool) (p : Place) (s : State) :
    ReadModifyWrite (stepMem up p) s (space p.isHl s) (p.addr s) (fun v => (stepRef up v).1)
      fun v => (stepRef up v).2 :=
  placeMode_addr p s ▸ modifyMem_completes (exec_stepMem up p s)

/-! ### Shifts and rotates of a byte as numbers -/

/-- Bits moved by one place are a doubling or a halving, and the bit moved in is a summand. -/
theorem shiftValue_eq_shiftRef (op : ShiftOp) (v : Byte) (cf : Bool) : op.value v cf = (shiftRef op v cf).1 := by
  have hcf := cf.toNat_le
  have htop : v.toNat / 128 / 2 = 0 := by omega
  have hrest : v.toNat / 2 / 128 = 0 := by omega
  apply BitVec.eq_of_toNat_eq
  cases op <;>
    simp only [ShiftOp.value, shiftRef, toNat_adjoin, BitVec.extractLsb'_toNat, BitVec.toNat_ofBool,
      BitVec.toNat_ofNat, Nat.shiftRight_eq_div_pow, Nat.reducePow] <;>
    omega

/-- The bit moved out is the top one to the left and the lowest one to the right. -/
theorem shiftCarry_eq_shiftRef (op : ShiftOp) (v : Byte) (cf : Bool) : op.carry v = (shiftRef op v cf).2 := by
  cases op with
  | rlc | rl | sla => exact BitVec.msb_eq_decide v
  | rrc | rr | sra | srl => exact Nat.testBit_zero v.toNat

theorem rotateA_completes {op : ShiftOp} (he : exec i s = perform { altd := true } (rotateA op) s) :
    ByteOp i s .a (shiftRef op s.main.a s.cf).1 { c := (shiftRef op s.main.a s.cf).2 } := by
  rw [← shiftValue_eq_shiftRef, ← shiftCarry_eq_shiftRef]
  exact dst8_setFlags_completes (v := fun s => op.value s.main.a s.cf) (f := fun s => { c := op.carry s.main.a }) he

/-! ### CPL -/

theorem not_eq_ofNat_sub (v : Byte) : ~~~v = BitVec.ofNat 8 (255 - v.toNat) := by bv_omega

theorem cpl_completes (s : State) : ByteSet .cpl s false s.altd .a (BitVec.ofNat 8 (255 - s.main.a.toNat)) :=
  not_eq_ofNat_sub s.main.a ▸ setByte_completes (f := fun s => ~~~s.main.a) rfl

/-- Settles O27, form by form. -/
theorem incDecAndRotatesOfA : Obligations.IncDecAndRotatesOfA := by
  intro s
  simp only [List.forall_mem_cons, List.not_mem_nil, false_imp_iff, implies_true, and_true]
  exact ⟨fun up r => dst8_setFlags_completes (v := fun s => (stepRef up (s.main.get r)).1)
      (f := fun s => (stepRef up (s.main.get r)).2) (exec_stepReg up r s),
    fun up p => stepMem_completes up p s,
    ⟨rotateA_completes rfl, rotateA_completes rfl, rotateA_completes rfl, rotateA_completes rfl⟩, cpl_completes s⟩

end Sys2Proof.Proofs
end

section
/-! PROOFS. Bit operations, shifts and rotates on bytes, groups K and N: the shifts and rotates are the bodies that
change a register or a byte in place, BIT reads one operand, SET and RES put one bit. -/

namespace Sys2Proof.Proofs

open Sys2Proof.Machine Sys2Proof.Claims

variable {s u : State} {c : Ctx} {v : Byte}

/-! ### Shifts and rotates -/

theorem shiftFlags_eq_logicRef (op : ShiftOp) (v : Byte) (cf : Bool) :
    logicFlags (op.value v cf) (op.carry v) = logicRef (shiftRef op v cf).1 (shiftRef op v cf).2 := by
  rw [shiftValue_eq_shiftRef, shiftCarry_eq_shiftRef op v cf, logicFlags_eq_logicRef (by decide)]

theorem exec_shiftOnReg (op : ShiftOp) (r : Reg8) (s : State) :
    exec (shiftOnReg op r) s = perform { altd := true } (shiftReg op r) s := by cases op <;> rfl

theorem exec_shiftOnMem (op : ShiftOp) (p : Place) (s : State) :
    exec (shiftOnMem op p) s = perform { altd := true, io := true } (shiftMem op (placeMode p)) s := by
  cases op <;> cases p <;> rfl

/-- Settles O28: the result and the flags are those of the body, as numbers. -/
theorem shiftRegister : Obligations.ShiftRegister := by
  intro op r s
  rw [← shiftFlags_eq_logicRef, ← shiftValue_eq_shiftRef]
  exact dst8_setFlags_completes (v := fun s => op.value (s.main.get r) s.cf)
    (f := fun s => logicFlags (op.value (s.main.get r) s.cf) (op.carry (s.main.get r))) (exec_shiftOnReg op r s)

/-- The carry that a shift of a byte in memory or I/O moves in is the one before the access. -/
theorem shiftMem_eq_modifyMem (op : ShiftOp) (m : MemAt) (c : Ctx) (s : State) :
    shiftMem op m c s = modifyMem m (fun v => (shiftRef op v s.cf).1)
      (fun v => logicRef (shiftRef op v s.cf).1 (shiftRef op v s.cf).2) c s := by
  simp only [shiftMem, shiftFlags_eq_logicRef]
  simp only [shiftValue_eq_shiftRef]

theorem perform_shiftMem (k : Marks) (op : ShiftOp) (m : MemAt) (s : State) :
    perform k (shiftMem op m) s = perform k (modifyMem m (fun v => (shiftRef op v s.cf).1)
      fun v => logicRef (shiftRef op v s.cf).1 (shiftRef op v s.cf).2) s := by
  simp only [perform, shiftMem_eq_modifyMem]

/-- Settles O29: one source access and one destination access at the same place, none of the twelve forms. -/
theorem shiftMemory : Obligations.ShiftMemory := by
  intro op p s
  rw [← placeMode_addr]
  exact modifyMem_completes ((exec_shiftOnMem op p s).trans (perform_shiftMem _ op _ s))

/-! ### BIT -/

/-- What the body of BIT answers once its operand is read. -/
theorem testBit_answers (b : BitVec 3) {o : ByteSrc} (hr : o.read c s = .ok (v, u)) :
    ∃ t, testBit b o c s = .ok t ∧ Keeps (readPieces c.io ++ [flagPiece c.alt]) s t ∧
      FlagsBecome { z := !v.getLsbD b.toNat } (bankOf c.alt s).f (bankOf c.alt t).f ∧ t.mem = s.mem ∧
        around t = around u := by
  have hbody := testBit_ok (b := b).2 ⟨v, u, hr, rfl⟩
  have hflags := flagsBecome_setFlags c { z := !v.getLsbD b.toNat } u
  rw [bankOf_byteSrc hr] at hflags
  exact ⟨_, hbody, testBit_keeps hbody, hflags, (setFlags_mem ..).trans (byteSrc_mem hr), around_setFlags ..⟩

theorem bitBR_completes (b : BitVec 3) (r : Reg8) (s : State) :
    FlagOp (.bitBR b r) s { z := !(s.main.get r).getLsbD b.toNat } :=
  setFlags_completes (f := fun s => { z := !(s.main.get r).getLsbD b.toNat }) rfl

/-- Of the memory forms only BIT b,(HL) is privileged (60_exceptions.md R508). -/
theorem exec_bitMem (b : BitVec 3) (p : Place) (s : State) :
    exec (bitMem b p) s =
      perform { altd := true, io := true, priv := p.isHl } (testBit b (.mem (placeMode p))) s := by cases p <;> rfl

theorem bitMem_completes (b : BitVec 3) (p : Place) (hv : SourceByte (space false s) (p.addr s) v s) :
    Completes (bitMem b p) s p.isHl s.io (flagPiece s.altd :: ioPieces) fun t =>
      FlagsBecome { z := !v.getLsbD b.toNat } (bankOf s.altd s).f (bankOf s.altd t).f ∧ MemKept s t ∧
        around t = (around s).read (space false s) (p.addr s) := by
  have hsel : (Marks.ctx { altd := true, io := true, priv := p.isHl } s).io = space false s := ctx_io_eq_space rfl
  rw [← placeMode_addr, ← hsel] at hv ⊢
  obtain ⟨u, hu, haround⟩ := srcRead_of_sourceByte hv
  obtain ⟨t, ht, hkeeps, hflags, hmem, hio⟩ := testBit_answers b (o := .mem (placeMode p)) hu
  exact completes_of_exec _ ((exec_bitMem b p s).trans (perform_next.2 ⟨t, ht, rfl⟩))
    (hkeeps.mono (readPieces_append_subset ..)) ⟨hflags, memKept_of_mem hmem, hio.trans haround⟩

/-- Settles O30. -/
theorem bitTest : Obligations.BitTest := fun b s =>
  ⟨fun r => bitBR_completes b r s, fun p _ hv => bitMem_completes b p hv⟩

/-! ### One bit of a byte -/

/-- A bit written with the value it has. -/
theorem putBit_self {i : Nat} (hi : i < 8) {x : Bool} (h : v.getLsbD i = x) : putBit v i x = v := by
  apply BitVec.eq_of_getLsbD_eq
  intro j hj
  rw [getLsbD_putBit v hi hj]
  split
  · next hji => rw [hji, h]
  · rfl

/-- Of two writes of one bit the second counts. -/
theorem putBit_putBit {i : Nat} (hi : i < 8) (x y : Bool) : putBit (putBit v i x) i y = putBit v i y := by
  apply BitVec.eq_of_getLsbD_eq
  intro j hj
  simp only [getLsbD_putBit _ hi hj]
  split <;> rfl

/-- A clear bit raised adds its weight, without a carry. -/
theorem putBit_true_of_clear {i : Nat} (h : v.getLsbD i = false) : putBit v i true = v + BitVec.twoPow 8 i := by
  have hdisjoint : v &&& BitVec.twoPow 8 i = 0#8 := by simp [BitVec.and_twoPow, h]
  rw [BitVec.add_eq_or_of_and_eq_zero v _ hdisjoint]
  rfl

/-- A set bit cleared takes its weight away: raised again it gives the byte back. -/
theorem putBit_false_of_set {i : Nat} (hi : i < 8) (h : v.getLsbD i = true) :
    putBit v i false = v - BitVec.twoPow 8 i := by
  have hclear : (putBit v i false).getLsbD i = false := by rw [getLsbD_putBit v hi hi, if_pos rfl]
  have hback : putBit (putBit v i false) i true = v := (putBit_putBit hi false true).trans (putBit_self hi h)
  rw [eq_comm, BitVec.sub_eq_iff_eq_add, ← putBit_true_of_clear hclear, hback]

/-- A bit put into a byte, as a number (44_bit_shift_rotate.md R377, R381). -/
theorem putBit_eq_bitPut (up : Bool) (b : BitVec 3) (v : Byte) : putBit v b.toNat up = bitPut up b v := by
  have hb : b.toNat < 8 := b.isLt
  have hweight : BitVec.twoPow 8 b.toNat = BitVec.ofNat 8 (2 ^ b.toNat) := by
    rw [← BitVec.toNat_twoPow_of_lt hb, BitVec.ofNat_toNat, BitVec.setWidth_eq]
  unfold bitPut
  split
  · next h => exact putBit_self hb h
  · next h =>
    cases up with
    | true =>
      rw [putBit_true_of_clear (by simpa using h), if_pos rfl, hweight, BitVec.ofNat_add, BitVec.ofNat_toNat,
        BitVec.setWidth_eq]
    | false =>
      have hset : v.getLsbD b.toNat = true := by simpa using h
      have hle : 2 ^ b.toNat ≤ v.toNat := Nat.ge_two_pow_of_testBit hset
      have hlt : 2 ^ b.toNat < 2 ^ 8 := Nat.pow_lt_pow_right (by decide) hb
      rw [putBit_false_of_set hb hset, if_neg Bool.false_ne_true, hweight, ← BitVec.ofNat_sub_ofNat_of_le _ _ hlt hle,
        BitVec.ofNat_toNat, BitVec.setWidth_eq]

/-! ### SET and RES -/

theorem exec_putReg (up : Bool) (b : BitVec 3) (r : Reg8) (s : State) :
    exec (putReg up b r) s = perform { altd := true } (setByte r fun s => bitPut up b (s.main.get r)) s := by
  simp only [← putBit_eq_bitPut]
  cases up <;> rfl

/-- RES has the marks of SET: it reads in the space it writes (log 25). -/
theorem exec_putMem (up : Bool) (b : BitVec 3) (p : Place) (s : State) :
    exec (putMem up b p) s = perform { io := true } (modifyMem (placeMode p) (bitPut up b) fun _ => {}) s := by
  rw [← funext (putBit_eq_bitPut up b)]
  cases up <;> cases p <;> rfl

theorem putMem_completes (up : Bool) (b : BitVec 3) (p : Place) (hv : SourceByte (space false s) (p.addr s) v s) :
    Completes (putMem up b p) s false s.io ioPieces fun t =>
      StoredByte (space false s) (p.addr s) (bitPut up b v) s t ∧
        around t = ((around s).read (space false s) (p.addr s)).write (space false s) (p.addr s) (bitPut up b v) := by
  have hsel : (Marks.ctx { io := true } s).io = space false s := ctx_io_eq_space rfl
  rw [← placeMode_addr, ← hsel] at hv ⊢
  obtain ⟨t, ht, -, hstored, -, haround⟩ := modifyMem_answers (bitPut up b) (fun _ => {}) hv
  exact completes_of_exec _ ((exec_putMem up b p s).trans (perform_next.2 ⟨t, ht, rfl⟩))
    ((modifyMem_noFlags_keeps ht).mono (List.append_subset.2 ⟨readPieces_subset _, writePieces_subset _⟩))
    ⟨hstored, haround⟩

/-- Settles O31. -/
theorem setReset : Obligations.SetReset := fun up b s =>
  ⟨fun r => setByte_completes (exec_putReg up b r s), fun p _ hv => putMem_completes up b p hv⟩

end Sys2Proof.Proofs
end

section
/-! PROOFS. The marks of the spec's lists under the latches: where ALTD sends results and IOI and IOE send writes, what
an unmarked instruction makes of a latch, and the three instructions that set one. -/

namespace Sys2Proof.Proofs

open Sys2Proof.Machine Sys2Proof.Claims

variable {i : Instr} {s t : State}

/-! ### Marked instructions -/

/-- Settles O16: under ALTD every main register is closed to a marked instruction but EX DE,HL. -/
theorem mainBankKeptUnderAltd : Obligations.MainBankKeptUnderAltd := by
  intro i s t h halt hmark hne
  have hclosed : ¬MainOpen ((marksOf i).ctx s) i := by simp [MainOpen, Marks.ctx, marksOf, halt, hmark, hne]
  exact bank_ext (fun r => exec_same h (p := .main r) hclosed) (exec_same h (p := .mainF) fun hf => hclosed hf.1)

/-- The I/O latch is the selection of every marked instruction. -/
theorem ctx_io_of_latch (hmark : ioMarked i = true) (hio : s.io ≠ none) : ((marksOf i).ctx s).io = s.io := by
  obtain ⟨sp, hsp⟩ := Option.ne_none_iff_exists'.1 hio
  simp [Marks.ctx, marksOf, hmark, hsp]

/-- Settles O19: a marked instruction stores to memory only without a selection. -/
theorem ioLeavesMemory : Obligations.IoLeavesMemory := by
  intro i s t h hmark hio
  refine memKept_of_mem (exec_mem h fun ⟨_, hnone⟩ => hio ?_)
  rw [← ctx_io_of_latch hmark hio]
  exact hnone hmark

/-! ### Unmarked instructions -/

/-- Only forms with an ALTD mark are refused under ALTD. -/
theorem altdMarked_of_destinationSp (h : destinationSp i = true) : altdMarked i = true := by
  cases i with
  | ldDdMn | ldDdAtMn | incSs | decSs => rfl
  | _ => exact absurd h Bool.false_ne_true

/-- Two settings of the latches give an instruction one outcome where they give it one selection: io must then be the
same for an I/O-marked form, which remembers it, and altd for a form with the destination SP. -/
theorem exec_relatch (hi : setsLatch i = false) (k : State) (hctx : (marksOf i).ctx (relatch k s) = (marksOf i).ctx s)
    (hio : ioMarked i = true → k.io = s.io) (hsp : destinationSp i = true → k.altd = s.altd) :
    exec i (relatch k s) = exec i s := by
  obtain ⟨b, hr⟩ := exists_runs i hi
  rw [hr.exec_eq, hr.exec_eq]
  exact if_congr (and_congr_right fun h => by rw [← hsp h]; rfl) rfl (perform_relatch hr.blind k hctx hio)

theorem exec_altd_of_unmarked (hi : setsLatch i = false) (hmark : altdMarked i = false) (x y : Bool) :
    exec i { s with altd := x } = exec i { s with altd := y } := by
  refine exec_relatch (s := { s with altd := y }) hi { s with altd := x } ?_ (fun _ => rfl) fun hsp => ?_
  · simp [Marks.ctx, marksOf, relatch, hmark]
  · exact absurd (altdMarked_of_destinationSp hsp) (by simp [hmark])

theorem exec_io_of_unmarked (hi : setsLatch i = false) (hmark : ioMarked i = false) (x y x' y' : Option IoSpace) :
    exec i { s with io := x, iobug := y } = exec i { s with io := x', iobug := y' } := by
  refine exec_relatch (s := { s with io := x', iobug := y' }) hi { s with io := x, iobug := y } ?_ (fun h => ?_)
    fun _ => rfl
  · simp [Marks.ctx, marksOf, relatch, hmark]
  · exact absurd h (by simp [hmark])

/-- Settles O22. -/
theorem unmarkedIgnoresLatch : Obligations.UnmarkedIgnoresLatch := fun _ _ hi =>
  ⟨fun hmark => exec_altd_of_unmarked hi hmark true false,
    fun x y hmark => exec_io_of_unmarked hi hmark x y none none⟩

/-! ### ALTD, IOI and IOE -/

theorem selectIo_completes (x : IoSpace) (s : State) :
    (s.io = none → selectIo x s = .next { s with io := some x, hold := true, iobug := none }) ∧
      (s.io ≠ none → selectIo x s = .refused .secondIoPrefix) :=
  ⟨fun h => selectIo_next.2 ⟨h, rfl⟩, fun h => selectIo_refused.2 ⟨h, rfl⟩⟩

/-- Settles O48. -/
theorem latchSetters : Obligations.LatchSetters := by
  refine fun s => ⟨rfl, fun x hx => ?_⟩
  simp only [List.mem_cons, List.not_mem_nil, or_false] at hx
  obtain rfl | rfl := hx
  · exact selectIo_completes .internal s
  · exact selectIo_completes .external s

end Sys2Proof.Proofs
end

section
/-! PROOFS. The block moves: one byte of a move, the repetition as so many executions of the one-byte form, and the
invariant that holds after each byte of LDIR and LDDR. -/

namespace Sys2Proof.Proofs

open Sys2Proof.Machine Sys2Proof.Claims

variable {i : Instr} {s t u : State} {c : Ctx} {up : Bool} {k n : Nat} {v w : Byte}

/-! ### One byte -/

/-- What LDI and LDD add to the pointers. -/
def blockStep (up : Bool) : Word := if up then 1 else -1

/-- The state after one byte `v` of a block move. -/
def movedByte (d : Word) (c : Ctx) (v : Byte) (s : State) : State :=
  { dstWrite c s.de v s with
    main := (((s.main.setPair .bc (s.bc - 1)).setPair .de (s.de + d)).setPair .hl (s.hl + d)).setFlags
      (blockFlags (s.bc - 1)) }

theorem blockOnce_of_byteAt {d : Word} (hv : s.byteAt s.hl = some v) : blockOnce d c s = .ok (movedByte d c v s) :=
  blockOnce_ok.2 ⟨v, hv, rfl⟩

section Fields

variable (d : Word) (c : Ctx) (v : Byte) (s : State)

@[simp] theorem movedByte_bc : (movedByte d c v s).bc = s.bc - 1 := pair_hi_lo _
@[simp] theorem movedByte_de : (movedByte d c v s).de = s.de + d := pair_hi_lo _
@[simp] theorem movedByte_hl : (movedByte d c v s).hl = s.hl + d := pair_hi_lo _

theorem around_movedByte : around (movedByte d c v s) = (around s).write c.io s.de v := around_dstWrite c s.de v s

theorem storedByte_movedByte : StoredByte c.io s.de v s (movedByte d c v s) := storedByte_dstWrite c s.de v s

end Fields

theorem blockAddr_zero (up : Bool) (a : Word) : blockAddr up a 0 = a := by cases up <;> simp [blockAddr]

/-- The next byte of a block move lies one step on. -/
theorem blockAddr_succ (up : Bool) (a : Word) (k : Nat) : blockAddr up a (k + 1) = blockAddr up a k + blockStep up := by
  cases up with
  | true => exact BitVec.ofNat_add (a.toNat + k) 1
  | false =>
    show BitVec.ofInt 16 (a.toNat - ↑(k + 1)) = BitVec.ofInt 16 (a.toNat - k) + BitVec.ofInt 16 (-1)
    rw [← BitVec.ofInt_add]
    congr 1
    omega

theorem add_blockStep (up : Bool) (a : Word) : a + blockStep up = blockAddr up a 1 := by
  rw [blockAddr_succ, blockAddr_zero]

theorem word_sub_one (x : Word) : x - 1 = BitVec.ofNat 16 (x.toNat + 65535) := by bv_omega

theorem word_sub_one_ne_zero (x : Word) : (x - 1 != 0#16) = decide (x.toNat ≠ 1) := by
  rw [Bool.eq_iff_iff, bne_iff_ne, decide_eq_true_iff]
  constructor <;> intro h <;> bv_omega

theorem exec_moveOne (up : Bool) (s : State) :
    exec (moveOne up) s = perform { io := true } (blockOnce (blockStep up)) s := by cases up <;> rfl

theorem blockFlags_sub_one (x : Word) : blockFlags (x - 1) = { lv := decide (x.toNat ≠ 1) } :=
  congrArg (fun z : Bool => ({ lv := z } : FlagWrite)) (word_sub_one_ne_zero x)

/-- What a block move writes: the I/O surroundings that its selection opens, the pointers, the counter and F. -/
theorem writePieces_block_subset (sel : Option IoSpace) :
    writePieces sel ++ blockPieces ⊆ blockPieces ++ [.ioTrace, .mmu, .mmuIn] := by
  cases sel <;> simp [writePieces, blockPieces]

/-- Settles O49: the body under the selection that the io latch gives. -/
theorem blockMoveOne : Obligations.BlockMoveOne := by
  intro up s v hv
  have hsel : (Marks.ctx { io := true } s).io = s.io := ctx_io_eq_io
  generalize hc : Marks.ctx { io := true } s = c at hsel
  have hbody : blockOnce (blockStep up) c s = .ok (movedByte (blockStep up) c v s) := blockOnce_of_byteAt hv
  rw [← hsel]
  refine completes_of_exec { io := true }
    ((exec_moveOne up s).trans (perform_next.2 ⟨_, hc ▸ hbody, rfl⟩)) ((blockOnce_keeps hbody).mono ?_)
    ⟨?_, ?_, ?_, ?_, storedByte_movedByte (blockStep up) c v s,
      around_movedByte (blockStep up) c v s⟩ rfl hsel.symm
  · exact List.append_subset.2
      ⟨List.subset_append_of_subset_right _ (writePieces_subset _), List.subset_append_left _ _⟩
  · exact (movedByte_bc _ c v s).trans (word_sub_one _)
  · exact (movedByte_de _ c v s).trans (add_blockStep up _)
  · exact (movedByte_hl _ c v s).trans (add_blockStep up _)
  · exact blockFlags_sub_one s.bc ▸ flagsBecome_applyFlags (blockFlags (s.bc - 1)) s.main.f

/-! ### The repetition -/

theorem exec_moveAll (up : Bool) (s : State) :
    exec (moveAll up) s = perform { io := true } (fun c s => blockLoop (blockStep up) (moveCount s) c s) s := by
  cases up <;> rfl

theorem execTimes_of_next {sel : Option IoSpace} (h : exec i { s with io := sel } = .next t) :
    execTimes sel i (n + 1) s = execTimes sel i n t := by simp only [execTimes, h]

theorem execTimes_of_fault {sel : Option IoSpace} {e : Fault} (h : exec i { s with io := sel } = .fault e) :
    execTimes sel i (n + 1) s = .fault e := by simp only [execTimes, h]

theorem execTimes_congr {sel : Option IoSpace} (h : exec i { s with io := sel } = exec i { t with io := sel }) :
    execTimes sel i (n + 1) s = execTimes sel i (n + 1) t := by simp only [execTimes, h]

/-- A blind body in a state that carries the latches of `s` is that body under the selection that `s` gives. -/
theorem perform_relatch_self {b : Body} (hb : LatchBlind b) (m : Marks) (s u : State) :
    perform m b (relatch s u) = perform m (fun c _ => b c u) s := by
  have hblind : b (m.ctx (relatch s u)) (relatch s u) = (b (m.ctx s) u).map (relatch s) := hb s (m.ctx s) u
  simp only [perform, hblind]
  cases b (m.ctx s) u <;> rfl

/-- The one-byte form after an instruction of its marks, with the io latch set again, selects as in `s`. -/
theorem exec_moveOne_complete (up : Bool) (s u : State) :
    exec (moveOne up) { complete { io := true } s u with io := s.io } =
      perform { io := true } (fun c _ => blockOnce (blockStep up) c u) s :=
  (exec_moveOne up _).trans <|
    (perform_relatch (s := relatch s u) blockOnce_blind { complete { io := true } s u with io := s.io } rfl
      fun _ => rfl).trans (perform_relatch_self blockOnce_blind _ s u)

/-- Where an instruction that began in `s` has come to `u`, `n` executions of the one-byte form give what `n` bytes of
the body give. -/
theorem execTimes_moveOne (up : Bool) (s : State) : ∀ (n : Nat) (u : State),
    execTimes s.io (moveOne up) n (complete { io := true } s u) =
      perform { io := true } (fun c _ => blockLoop (blockStep up) n c u) s
  | 0, _ => rfl
  | n + 1, u => by
    have hexec := exec_moveOne_complete up s u
    cases hone : blockOnce (blockStep up) (Marks.ctx { io := true } s) u with
    | error e =>
      rw [execTimes_of_fault (hexec.trans (perform_fault.2 hone))]
      exact (perform_fault.2 (bind_error.2 (.inl hone))).symm
    | ok w =>
      rw [execTimes_of_next (hexec.trans (perform_next.2 ⟨w, hone, rfl⟩)), execTimes_moveOne up s n w]
      simp only [perform, blockLoop_succ, hone, ok_bind]

theorem moveCount_pos (s : State) : 0 < moveCount s := by
  unfold moveCount
  split
  · decide
  · next h => exact Nat.pos_of_ne_zero fun h0 => h (BitVec.eq_of_toNat_eq h0)

/-- Settles O51. -/
theorem blockMoveRepeats : Obligations.BlockMoveRepeats := by
  intro up s
  obtain ⟨n, hn⟩ := Nat.exists_eq_add_one_of_ne_zero (moveCount_pos s).ne'
  have hfirst : exec (moveOne up) { s with io := s.io } =
      exec (moveOne up) { complete { io := true } s s with io := s.io } :=
    (exec_moveOne up s).trans (exec_moveOne_complete up s s).symm
  calc exec (moveAll up) s
      = perform { io := true } (fun c _ => blockLoop (blockStep up) (n + 1) c s) s := by rw [exec_moveAll, ← hn]; rfl
    _ = execTimes s.io (moveOne up) (n + 1) (complete { io := true } s s) := (execTimes_moveOne up s (n + 1) s).symm
    _ = execTimes s.io (moveOne up) (n + 1) s := (execTimes_congr hfirst).symm
    _ = execTimes s.io (moveOne up) (moveCount s) s := by rw [hn]

/-! ### The surroundings of a repetition -/

/-- The surroundings after `k` bytes `v` of a block move from `s` on. -/
def aroundAfter (up : Bool) (s : State) (v : Nat → Byte) : Nat → Around
  | 0 => around s
  | k + 1 => (aroundAfter up s v k).write s.io (blockAddr up s.de k) (v k)

/-- One more I/O write takes the oracle's next answer. -/
theorem mmuAfterWrites_succ : ∀ (k : Nat) (m : MmuState) (l : List (Option MmuState)),
    mmuAfterWrites (k + 1) m l = (l.drop k).head?.join.getD (mmuAfterWrites k m l)
  | 0, _, _ => rfl
  | k + 1, m, l => by
    rw [mmuAfterWrites, mmuAfterWrites_succ k, List.drop_tail]
    rfl

section Around

variable {s : State} {v : Nat → Byte}

theorem aroundAfter_memory (h : s.io = none) : ∀ k, aroundAfter up s v k = around s
  | 0 => rfl
  | k + 1 => by
    rw [aroundAfter, aroundAfter_memory h k, h]
    rfl

/-- Under the io latch each byte is one recorded write, and the oracle is asked once for each. -/
theorem aroundAfter_io {sp : IoSpace} (h : s.io = some sp) : ∀ k, aroundAfter up s v k =
    ⟨mmuAfterWrites k s.mmu s.mmuIn, s.mmuIn.drop k, s.ioIn, s.ioDraws,
      s.ioTrace ++ (List.range k).map fun j => .write sp (ioAddr sp (blockAddr up s.de j)) (v j)⟩
  | 0 => by simp [aroundAfter, around, mmuAfterWrites]
  | k + 1 => by
    rw [aroundAfter, aroundAfter_io h k, h]
    simp [Around.write, mmuAfterWrites_succ, List.range_succ]

theorem aroundAfter_mmu (k : Nat) : (aroundAfter up s v k).mmu = mmuDuring s k := by
  unfold mmuDuring
  cases h : s.io with
  | none => rw [aroundAfter_memory h]; rfl
  | some sp => rw [aroundAfter_io h]; rfl

theorem aroundAfter_mmuIn (k : Nat) :
    (aroundAfter up s v k).mmuIn = if s.io = none then s.mmuIn else s.mmuIn.drop k := by
  cases h : s.io with
  | none => rw [aroundAfter_memory h]; rfl
  | some sp => rw [aroundAfter_io h]; rfl

theorem aroundAfter_ioTrace : (aroundAfter up s v (moveCount s)).ioTrace = s.ioTrace ++ blockTrace up s v := by
  unfold blockTrace
  cases h : s.io with
  | none => rw [aroundAfter_memory h, List.append_nil]; rfl
  | some sp => rw [aroundAfter_io h]; rfl

end Around

/-! ### The repetition byte by byte -/

/-- A destination access leaves every byte but its own. -/
theorem physByte_of_storedByte {sel : Option IoSpace} {a : Word} {p : PhysAddr} (h : StoredByte sel a w t u)
    (hp : sel = none → p ≠ t.phys a) : u.physByte p = t.physByte p := by
  cases sel with
  | none => exact h.2 p (by simpa using hp rfl)
  | some sp => exact h p

/-- A destination access takes no byte its value. -/
theorem readable_of_storedByte {sel : Option IoSpace} {a : Word} {p : PhysAddr} (h : StoredByte sel a w t u)
    (hp : t.physByte p ≠ none) : u.physByte p ≠ none := by
  by_cases hsel : sel = none ∧ p = t.phys a
  · obtain ⟨rfl, rfl⟩ := hsel
    rw [h.1]
    exact Option.some_ne_none w
  · rwa [physByte_of_storedByte h fun hn e => hsel ⟨hn, e⟩]

/-- F after two writes of L/V is F after the second. -/
theorem flagsBecome_lv_trans {x y : Bool} {f g h : Byte} (hf : FlagsBecome { lv := x } f g)
    (hg : FlagsBecome { lv := y } g h) : FlagsBecome { lv := y } f h := by
  obtain ⟨hs, hz, -, hc, hrest⟩ := hf
  obtain ⟨hs', hz', hlv, hc', hrest'⟩ := hg
  exact ⟨hs'.trans hs, hz'.trans hz, hlv, hc'.trans hc, fun k hk => (hrest' k hk).trans (hrest k hk)⟩

/-- `t` is where a block move from `s` stands after `k` bytes, those under an I/O latch being `v`. -/
structure Moved (up : Bool) (s : State) (v : Nat → Byte) (k : Nat) (t : State) : Prop where
  bc : t.bc = s.bc - BitVec.ofNat 16 k
  de : t.de = blockAddr up s.de k
  hl : t.hl = blockAddr up s.hl k
  flags : ∃ lv : Bool, (k ≠ 0 → lv = (t.bc != 0#16)) ∧ FlagsBecome { lv := lv } s.main.f t.main.f
  kept : Keeps (writePieces s.io ++ blockPieces) s t
  mem : ∀ p, (∀ j, s.io = none → j < k → p ≠ s.phys (blockAddr up s.de j)) → t.physByte p = s.physByte p
  readable : ∀ p, s.physByte p ≠ none → t.physByte p ≠ none
  around_eq : around t = aroundAfter up s v k

section Repetition

variable {s t : State} {v : Nat → Byte}

theorem Moved.zero : Moved up s v 0 s where
  bc := (BitVec.sub_zero _).symm
  de := (blockAddr_zero ..).symm
  hl := (blockAddr_zero ..).symm
  flags := ⟨flagLV s.main.f, fun h => absurd rfl h, rfl, rfl, rfl, rfl, fun _ _ => rfl⟩
  kept := .refl
  mem _ _ := rfl
  readable _ h := h
  around_eq := rfl

/-- Without an I/O selection nothing moves the logical window. -/
theorem Moved.phys (h : Moved up s v k t) (hio : s.io = none) (a : Word) : t.phys a = s.phys a :=
  phys_eq_of_keeps h.kept (by simp [hio, writePieces, blockPieces]) (by simp [hio, writePieces, blockPieces]) a

/-- The next source byte is readable; under an I/O latch, where memory is as at first, it is the first state's. -/
theorem Moved.source (h : Moved up s v k t) (hs : SourceBytes up s v) (hk : k < moveCount s) :
    ∃ w, t.byteAt t.hl = some w ∧ (s.io ≠ none → w = v k) := by
  have hfirst : s.physByte (t.phys t.hl) = some (v k) := by
    have hxpc : t.xpc = s.xpc := h.kept .xpc (by cases s.io <;> simp [writePieces, blockPieces])
    have hmmu : t.mmu = mmuDuring s k := (congrArg Around.mmu h.around_eq).trans (aroundAfter_mmu k)
    rw [State.phys, h.hl, hxpc, hmmu]
    exact hs k hk
  obtain ⟨w, hw⟩ := Option.ne_none_iff_exists'.1 (h.readable _ (by rw [hfirst]; exact Option.some_ne_none _))
  refine ⟨w, hw, fun hio => ?_⟩
  rw [h.mem _ fun _ hn => absurd hn hio, hfirst] at hw
  exact (Option.some.inj hw).symm

/-- One more byte. -/
theorem Moved.succ (hc : c.io = s.io) (h : Moved up s v k t) (hs : SourceBytes up s v) (hk : k < moveCount s) :
    ∃ u, blockOnce (blockStep up) c t = .ok u ∧ Moved up s v (k + 1) u := by
  obtain ⟨w, hw, hv⟩ := h.source hs hk
  have hbody : blockOnce (blockStep up) c t = .ok (movedByte (blockStep up) c w t) := blockOnce_of_byteAt hw
  have hstored := storedByte_movedByte (blockStep up) c w t
  obtain ⟨lv, -, hflags⟩ := h.flags
  refine ⟨_, hbody, ?_, ?_, ?_, ⟨_, fun _ => ?_, flagsBecome_lv_trans hflags (flagsBecome_applyFlags _ t.main.f)⟩,
    ?_, fun p hp => ?_, fun p hp => readable_of_storedByte hstored (h.readable p hp), ?_⟩
  · rw [movedByte_bc, h.bc]
    bv_omega
  · rw [movedByte_de, h.de, blockAddr_succ]
  · rw [movedByte_hl, h.hl, blockAddr_succ]
  · rw [movedByte_bc]
  · exact (h.kept.trans (hc ▸ blockOnce_keeps hbody)).mono (by simp)
  · have hearlier := h.mem p fun j hio hj => hp j hio (Nat.lt_succ_of_lt hj)
    rw [← hearlier]
    refine physByte_of_storedByte hstored fun hn => ?_
    have hio := hc.symm.trans hn
    rw [h.phys hio, h.de]
    exact hp k hio (Nat.lt_succ_self k)
  · rw [around_movedByte, h.around_eq, h.de, hc, aroundAfter]
    by_cases hio : s.io = none
    · rw [hio]; rfl
    · rw [hv hio]

/-- All the bytes that are left. -/
theorem Moved.loop (hc : c.io = s.io) (hs : SourceBytes up s v) : ∀ (n : Nat) {k : Nat} {t : State},
    Moved up s v k t → k + n = moveCount s →
      ∃ u, blockLoop (blockStep up) n c t = .ok u ∧ Moved up s v (moveCount s) u
  | 0, _, t, h, hn => ⟨t, rfl, hn ▸ h⟩
  | n + 1, k, _, h, hn => by
    obtain ⟨u, hu, hmoved⟩ := h.succ hc hs (by omega)
    obtain ⟨u', hu', hall⟩ := hmoved.loop hc hs n (by omega)
    exact ⟨u', blockLoop_succ_ok.2 ⟨u, hu, hu'⟩, hall⟩

/-- The count brings BC to 0, also from 0 (log 20). -/
theorem bc_sub_moveCount (s : State) : s.bc - BitVec.ofNat 16 (moveCount s) = 0 := by
  unfold moveCount
  split
  · next h =>
    have hbc : s.bc = 0 := h
    rw [hbc]
    decide
  · exact (congrArg (s.bc - ·) ((BitVec.ofNat_toNat ..).trans (BitVec.setWidth_eq _))).trans (BitVec.sub_self _)

/-- After the last byte BC is 0, so that L/V is 0. -/
theorem Moved.flags_all (h : Moved up s v (moveCount s) t) : FlagsBecome { lv := false } s.main.f t.main.f := by
  obtain ⟨lv, hlv, hflags⟩ := h.flags
  have hfalse : lv = false := by
    rw [hlv (moveCount_pos s).ne', h.bc, bc_sub_moveCount]
    rfl
  exact hfalse ▸ hflags

/-- Settles O50: the invariant after all the bytes. -/
theorem blockMoveAll : Obligations.BlockMoveAll := by
  intro up s v hs
  obtain ⟨t, ht, h⟩ := Moved.loop ctx_io_eq_io hs (moveCount s) Moved.zero (Nat.zero_add _)
  exact completes_of_exec { io := true } ((exec_moveAll up s).trans (perform_next.2 ⟨t, ht, rfl⟩))
    (h.kept.mono (writePieces_block_subset _))
    ⟨h.bc.trans (bc_sub_moveCount s), h.de, h.hl, h.flags_all, h.mem,
      (congrArg Around.ioTrace h.around_eq).trans aroundAfter_ioTrace,
      (congrArg Around.mmu h.around_eq).trans (aroundAfter_mmu _),
      (congrArg Around.mmuIn h.around_eq).trans (aroundAfter_mmuIn _)⟩

end Repetition

end Sys2Proof.Proofs
end

section
/-! PROOFS. Calls, restarts and returns, near and far, and the instructions on the interrupt priority with NOP. -/

namespace Sys2Proof.Proofs

open Sys2Proof.Machine Sys2Proof.Claims

variable {i : Instr} {s t : State} {l h x : Byte}

/-! ### The interrupt priority -/

/-- The oldest two bits of IP are lost (10_state.md R47). -/
theorem pushPriority_eq_ofNat (ip : Byte) (p : BitVec 2) :
    pushPriority ip p = BitVec.ofNat 8 (4 * ip.toNat + p.toNat) := by
  apply BitVec.eq_of_toNat_eq
  simp only [pushPriority, toNat_adjoin, BitVec.extractLsb'_toNat, BitVec.toNat_ofNat]
  omega

/-- No bit of IP is lost (10_state.md R47). -/
theorem popPriority_eq_ofNat (ip : Byte) : popPriority ip = BitVec.ofNat 8 (ip.toNat / 4 + 64 * (ip.toNat % 4)) := by
  have hhigh : ip.toNat / 4 < 64 := by omega
  apply BitVec.eq_of_toNat_eq
  simp only [popPriority, toNat_adjoin, BitVec.extractLsb'_toNat, BitVec.toNat_ofNat, Nat.shiftRight_zero,
    Nat.shiftRight_eq_div_pow ip.toNat 2, Nat.reducePow, Nat.mod_eq_of_lt hhigh]
  omega

/-- The four IPSET are one body with their priority as its parameter (46_control_misc.md R471 to R474). -/
theorem ipSet_completes {p : BitVec 2} (he : exec i s = perform { priv := true } (ipSet p) s) :
    Completes i s true none [.ip] fun t => t.ip = BitVec.ofNat 8 (4 * s.ip.toNat + p.toNat) ∧ MemKept s t :=
  completes_of_exec { priv := true } he (keeps_ip _) ⟨pushPriority_eq_ofNat s.ip p, memKept_of_mem rfl⟩

theorem ipres_completes (s : State) : Completes .ipres s true none [.ip] fun t =>
    t.ip = BitVec.ofNat 8 (s.ip.toNat / 4 + 64 * (s.ip.toNat % 4)) ∧ MemKept s t :=
  completes_of_exec { priv := true } rfl (keeps_ip _) ⟨popPriority_eq_ofNat s.ip, memKept_of_mem rfl⟩

theorem nop_completes (s : State) : Completes .nop s false none [] fun t => MemKept s t :=
  completes_of_exec {} rfl .refl (memKept_of_mem rfl)

/-- Settles O56. -/
theorem priorityInstructions : Obligations.PriorityInstructions := by
  refine fun s => ⟨?_, ipres_completes s, nop_completes s⟩
  simp only [List.forall_mem_cons, List.not_mem_nil, false_imp_iff, implies_true, and_true]
  exact ⟨ipSet_completes (p := 0) rfl, ipSet_completes (p := 1) rfl, ipSet_completes (p := 2) rfl,
    ipSet_completes (p := 3) rfl⟩

/-! ### Calls -/

/-- CALL and RST: the return address is pushed before PC changes (46_control_misc.md R454, R469). -/
theorem callTo_completes {target : State → Word} (he : exec i s = perform {} (callTo target) s) :
    Calls i s (target s) :=
  completes_of_exec {} he ((callTo_keeps (c := Marks.ctx {} s) (a := target) rfl).mono (by simp))
    ⟨rfl, pushedWord_push16 s.pc s⟩

/-- The concatenation `IIR ++ 0 ++ v ++ 0000` as a number (46_control_misc.md R469). -/
theorem restartTarget_eq_ofNat (v : BitVec 3) (s : State) :
    restartTarget v s = BitVec.ofNat 16 (s.iir.toNat * 256 + v.toNat * 16) := by
  apply BitVec.eq_of_toNat_eq
  simp only [restartTarget, toNat_adjoin, BitVec.toNat_ofNat]
  omega

theorem rstV_completes (s : State) (v : BitVec 3) :
    Calls (.rstV v) s (BitVec.ofNat 16 (s.iir.toNat * 256 + v.toNat * 16)) :=
  restartTarget_eq_ofNat v s ▸ callTo_completes (target := restartTarget v) rfl

theorem ljpXMn_completes (s : State) (x : Byte) (mn : Word) :
    Completes (.ljpXMn x mn) s false none [.pc, .xpc] fun t => t.pc = mn ∧ t.xpc = x ∧ MemKept s t :=
  completes_of_exec {} rfl (((keeps_xpc x).trans (keeps_pc mn)).mono (by simp)) ⟨rfl, rfl, memKept_of_mem rfl⟩

/-- A byte and then a word were pushed: the byte at SP-1, the word's halves at SP-2 and SP-3. A later byte stands where
two fall on the same physical address. -/
def PushedFar (v : Byte) (w : Word) (s t : State) : Prop :=
  t.sp = s.sp - 3 ∧ t.physByte (s.phys (s.sp - 3)) = some (lo w) ∧
    (s.phys (s.sp - 2) ≠ s.phys (s.sp - 3) → t.physByte (s.phys (s.sp - 2)) = some (hi w)) ∧
    (s.phys (s.sp - 1) ≠ s.phys (s.sp - 2) → s.phys (s.sp - 1) ≠ s.phys (s.sp - 3) →
      t.physByte (s.phys (s.sp - 1)) = some v) ∧
    MemKeptOutside [s.phys (s.sp - 1), s.phys (s.sp - 2), s.phys (s.sp - 3)] s t

/-- The pushed word stands as `pushedWord_push16` says; the byte before it is one more write outside it. -/
theorem pushedFar_push16_push8 (v : Byte) (w : Word) (s : State) : PushedFar v w s (push16 w (push8 v s)) := by
  have hsp2 : s.sp - 1 - 1 = s.sp - 2 := by bv_omega
  have hsp3 : s.sp - 1 - 2 = s.sp - 3 := by bv_omega
  have hword : TwoBytes (s.phys (s.sp - 2)) (s.phys (s.sp - 3)) (hi w) (lo w) (push8 v s) (push16 w (push8 v s)) := by
    rw [← hsp2, ← hsp3]
    exact (pushedWord_push16 w (push8 v s)).2
  have hbyte : StoredByte none (s.sp - 1) v s (push8 v s) := storedByte_dstWrite ⟨false, none⟩ (s.sp - 1) v s
  obtain ⟨hlow, hhigh, houtside⟩ := hword
  obtain ⟨hfirst, hrest⟩ := hbyte
  refine ⟨hsp3, hlow, hhigh, fun h2 h3 => ?_, fun p hp => ?_⟩
  · rw [houtside _ (by simpa using ⟨h2, h3⟩), hfirst]
  · obtain ⟨hp1, hp2, hp3⟩ : p ≠ s.phys (s.sp - 1) ∧ p ≠ s.phys (s.sp - 2) ∧ p ≠ s.phys (s.sp - 3) := by
      simpa using hp
    rw [houtside p (by simpa using ⟨hp2, hp3⟩), hrest p (by simpa using hp1)]

/-- The old XPC is pushed, and places the stack while it is; the new one counts from the next access on
(46_control_misc.md R463). -/
theorem lcallXMn_completes (s : State) (x : Byte) (mn : Word) :
    Completes (.lcallXMn x mn) s false none [.pc, .sp, .xpc] fun t =>
      t.pc = mn ∧ t.xpc = x ∧ PushedFar s.xpc s.pc s t :=
  completes_of_exec {} rfl
    ((((push8_keeps s.xpc).trans (push16_keeps s.pc)).trans ((keeps_xpc x).trans (keeps_pc mn))).mono (by simp))
    ⟨rfl, rfl, pushedFar_push16_push8 s.xpc s.pc s⟩

/-- Settles O54. -/
theorem callsAndRestarts : Obligations.CallsAndRestarts := fun s =>
  ⟨fun mn => callTo_completes (target := fun _ => mn) rfl, fun v _ => rstV_completes s v, ljpXMn_completes s,
    lcallXMn_completes s⟩

/-! ### Returns -/

theorem ret_completes (hl : s.byteAt s.sp = some l) (hh : s.byteAt (s.sp + 1) = some h)
    (hi : i = .ret ∨ ∃ f, i = .retF f ∧ condRef s.main.f f) :
    Completes i s false none [.pc, .sp] fun t => t.pc = h ++ l ∧ t.sp = s.sp + 2 ∧ MemKept s t := by
  obtain rfl | ⟨f, rfl, hf⟩ := hi
  · exact return_completes rfl hl hh
  · exact return_completes (exec_retF_true ((condHolds_iff _ _).2 hf)) hl hh

theorem retF_untaken_completes {f : Cond} (hf : ¬condRef s.main.f f) :
    Completes (.retF f) s false none [] fun t => MemKept s t :=
  completes_of_exec {} (exec_retF_false (Bool.eq_false_iff.2 (mt (condHolds_iff _ _).1 hf))) .refl (memKept_of_mem rfl)

theorem pop16_of_bytes (hl : s.byteAt s.sp = some l) (hh : s.byteAt (s.sp + 1) = some h) :
    pop16 s = .ok (h ++ l, { s with sp := s.sp + 2 }) := pop16_ok.2 ⟨memRead16_of_bytes hl hh, rfl⟩

theorem exec_lret (hl : s.byteAt s.sp = some l) (hh : s.byteAt (s.sp + 1) = some h)
    (hx : s.byteAt (s.sp + 2) = some x) :
    exec .lret s = .next (complete {} s { s with sp := s.sp + 2 + 1, pc := h ++ l, xpc := x }) := by
  have hpop : pop8 { s with sp := s.sp + 2 } = .ok (x, { s with sp := s.sp + 2 + 1 }) := pop8_ok.2 ⟨hx, rfl⟩
  show execLret s = _
  simp only [execLret, perform, pop16_of_bytes hl hh, hpop, ok_bind]

/-- Every byte is read before PC and XPC change (46_control_misc.md R465). -/
theorem lret_completes (hl : s.byteAt s.sp = some l) (hh : s.byteAt (s.sp + 1) = some h)
    (hx : s.byteAt (s.sp + 2) = some x) :
    Completes .lret s false none [.pc, .sp, .xpc] fun t =>
      t.pc = h ++ l ∧ t.xpc = x ∧ t.sp = s.sp + 3 ∧ MemKept s t :=
  completes_of_exec {} (exec_lret hl hh hx)
    (((keeps_sp (s.sp + 2 + 1)).trans ((keeps_pc (h ++ l)).trans (keeps_xpc x))).mono (by simp))
    ⟨rfl, rfl, BitVec.add_assoc s.sp 2 1, memKept_of_mem rfl⟩

/-- IP comes first, then PC (46_control_misc.md R468). -/
theorem reti_completes (hl : s.byteAt s.sp = some l) (hh : s.byteAt (s.sp + 1) = some h)
    (hx : s.byteAt (s.sp + 2) = some x) :
    Completes .reti s true none [.pc, .sp, .ip] fun t =>
      t.ip = l ∧ t.pc = x ++ h ∧ t.sp = s.sp + 3 ∧ MemKept s t := by
  have hpc : memRead16 (s.sp + 1) { s with sp := s.sp + 1 } = .ok (x ++ h) :=
    memRead16_of_bytes hh (BitVec.add_assoc s.sp 1 1 ▸ hx)
  have hbody : returnFromInterrupt s = .ok { s with sp := s.sp + 1 + 2, pc := x ++ h, ip := l } :=
    returnFromInterrupt_ok.2 ⟨l, _, hl, hpc, rfl⟩
  have he : exec .reti s = perform { priv := true } (fun _ s => returnFromInterrupt s) s := rfl
  exact completes_of_exec { priv := true } (he.trans (perform_next.2 ⟨_, hbody, rfl⟩))
    ((returnFromInterrupt_keeps hbody).mono (by simp)) ⟨rfl, rfl, BitVec.add_assoc s.sp 1 2, memKept_of_mem rfl⟩

/-- Settles O55. -/
theorem returns : Obligations.Returns := fun _ =>
  ⟨fun _ => retF_untaken_completes, fun _ _ hl hh =>
    ⟨fun _ => ret_completes hl hh, fun _ hx => ⟨lret_completes hl hh hx, reti_completes hl hh hx⟩⟩⟩

/-! ### LCALL, then LRET -/

/-- The three bytes of a far push, as LRET reads them under a translation that places them where they were written. -/
theorem bytes_of_pushedFar {v : Byte} {w : Word} (hpushed : PushedFar v w s t)
    (hphys : ∀ k ∈ [1, 2, 3], t.phys (s.sp - BitVec.ofNat 16 k) = s.phys (s.sp - BitVec.ofNat 16 k))
    (h12 : s.phys (s.sp - 1) ≠ s.phys (s.sp - 2)) (h13 : s.phys (s.sp - 1) ≠ s.phys (s.sp - 3))
    (h23 : s.phys (s.sp - 2) ≠ s.phys (s.sp - 3)) :
    t.byteAt t.sp = some (lo w) ∧ t.byteAt (t.sp + 1) = some (hi w) ∧ t.byteAt (t.sp + 2) = some v := by
  obtain ⟨hsp, hlow, hhigh, hfirst, -⟩ := hpushed
  have hsp1 : t.sp + 1 = s.sp - 2 := by rw [hsp]; bv_omega
  have hsp2 : t.sp + 2 = s.sp - 1 := by rw [hsp]; bv_omega
  rw [hsp1, hsp2, hsp]
  exact ⟨(congrArg t.physByte (hphys 3 (by simp))).trans hlow,
    (congrArg t.physByte (hphys 2 (by simp))).trans (hhigh h23),
    (congrArg t.physByte (hphys 1 (by simp))).trans (hfirst h12 h13)⟩

/-- Settles O57: after LCALL the MMU state is as before and XPC is the new one, under which the premise places the three
bytes where they were pushed. -/
theorem longCallReturns : Obligations.LongCallReturns := by
  intro s x mn hsame h12 h13 h23
  obtain ⟨t, ht, hkeeps, -, -, hxpc, hpushed⟩ := lcallXMn_completes s x mn
  have hmmu : t.mmu = s.mmu := hkeeps .mmu (by simp)
  obtain ⟨hl, hh, hx⟩ := bytes_of_pushedFar hpushed
    (fun k hk => by rw [State.phys, hxpc, hmmu]; exact hsame k hk) h12 h13 h23
  obtain ⟨u, hu, -, -, hpc, huxpc, hsp, -⟩ := lret_completes hl hh hx
  have hback : u.sp = s.sp := by rw [hsp, hpushed.1]; bv_omega
  exact ⟨t, u, ht, hu, hpc.trans (pair_hi_lo _), huxpc, hback⟩

end Sys2Proof.Proofs
end

section
/-! PROOFS. Interrupts at an instruction boundary: when a request is eligible, when it is taken, and what its entry does
to the state. -/

namespace Sys2Proof.Proofs

open Sys2Proof.Machine Sys2Proof.Claims

variable {i : Instr} {s t : State} {r : IrqRequest} {more : List (Option IrqRequest)}

/-! ### Eligibility -/

theorem toNat_code (p : Priority) : p.code.toNat = priorityNumber p := by cases p <;> rfl

theorem priorityNumber_lt (p : Priority) : priorityNumber p < 4 := by cases p <;> decide

theorem toNat_currentPriority (ip : Byte) : (currentPriority ip).toNat = ip.toNat % 4 := by
  simp [currentPriority, BitVec.extractLsb'_toNat]

/-- The comparison of 60_exceptions.md R504 in numbers. -/
theorem eligible_iff (r : IrqRequest) (s : State) : eligible r s = true ↔ s.ip.toNat % 4 < priorityNumber r.prio := by
  rw [eligible, decide_eq_true_iff, BitVec.lt_def, toNat_currentPriority, toNat_code]

/-- A presented request is taken where hold is clear and it is eligible (60_exceptions.md R507). -/
theorem interruptNow_presented (hirq : s.irq = some r :: more) :
    interruptNow s = some r ↔ s.hold = false ∧ s.ip.toNat % 4 < priorityNumber r.prio := by
  unfold interruptNow
  rw [hirq, ← eligible_iff]
  cases s.hold <;> simp

/-! ### Entry -/

theorem step_of_interrupt (h : interruptNow s = some r) : step s = .next (takeInterrupt r (afterAsking s)) := by
  unfold step
  rw [h]

theorem takeInterrupt_keeps (r : IrqRequest) (s : State) : Keeps [.sp, .ip, .pc] s (takeInterrupt r s) :=
  ((push16_keeps s.pc).trans (keeps_ip (pushPriority s.ip r.prio.code))).trans (keeps_pc (vector r s))

theorem keeps_irq (l : List (Option IrqRequest)) : Keeps [.irq] s { s with irq := l } := fun p hp => by
  cases p with
  | irq => exact absurd (List.mem_singleton_self _) hp
  | _ => rfl

theorem pushedWord_takeInterrupt (r : IrqRequest) (s : State) : PushedWord s.pc s (takeInterrupt r s) :=
  pushedWord_push16 s.pc s

/-- Entry shifts the priority of the request into IP (60_exceptions.md R510). -/
theorem takeInterrupt_ip_eq_ofNat (r : IrqRequest) (s : State) :
    (takeInterrupt r s).ip = BitVec.ofNat 8 (4 * s.ip.toNat + priorityNumber r.prio) := by
  rw [takeInterrupt_ip, pushPriority_eq_ofNat, toNat_code]

/-- After entry the processor's priority is that of the request. -/
theorem takeInterrupt_priority (r : IrqRequest) (s : State) :
    (takeInterrupt r s).ip.toNat % 4 = priorityNumber r.prio := by
  have hlt := priorityNumber_lt r.prio
  rw [takeInterrupt_ip_eq_ofNat, BitVec.toNat_ofNat]
  omega

/-- Settles O6: asking uses the answer up and changes nothing else, and the entry sequence starts from there. -/
theorem stepTakesInterrupt : Obligations.StepTakesInterrupt := by
  intro s r more hhold hirq hprio
  have hasked : afterAsking s = { s with irq := more } := by simp [afterAsking_eq, hhold, hirq]
  have hstep := step_of_interrupt ((interruptNow_presented hirq).2 ⟨hhold, hprio⟩)
  rw [hasked] at hstep
  exact ⟨_, hstep, pushedWord_takeInterrupt r { s with irq := more }, takeInterrupt_ip_eq_ofNat r _, rfl, rfl,
    ((keeps_irq more).trans (takeInterrupt_keeps r _)).mono (by simp), rfl, rfl, rfl, rfl⟩

/-- Settles O8: the priority that entry leaves in IP is the one a later request is compared with. -/
theorem nestedEligibility : Obligations.NestedEligibility := fun s r q => by
  rw [eligible_iff, takeInterrupt_priority]

/-! ### The boundary after an instruction -/

/-- The hold latch after an instruction step (60_exceptions.md R508, 45_prefix_block.md R436). -/
theorem hold_after_step (hi : i.wellFormed = true) (hnow : interruptNow s = none) (hstands : StandsAtPc i s)
    (h : step s = .next t) : t.hold = (privileged i || setsLatch i) := by
  rw [stepRunsDecoded.1 s i hi hnow hstands] at h
  exact (latchLife i _ t h).2.1

/-- Settles O7: hold says which instruction ran, IP what the request must exceed. -/
theorem interruptAfterInstruction : Obligations.InterruptAfterInstruction := by
  intro s t i hi hnow hstands hstep r more
  have hhold := hold_after_step hi hnow hstands hstep
  rw [interruptNow_presented (s := { t with irq := some r :: more }) rfl, hhold, Bool.or_eq_false_iff, and_assoc]

end Sys2Proof.Proofs
end

section
/-! PROOFS. Why an instruction stops: a fault names a byte that had no value when the instruction began, and the
refusals are those of a second I/O latch and of ALTD with destination SP. -/

namespace Sys2Proof.Proofs

open Sys2Proof.Machine Sys2Proof.Claims

variable {i : Instr} {s t : State} {c : Ctx} {e : Fault}

/-- A fault names a physical byte without a value. -/
def NamesUnwritten (s : State) (e : Fault) : Prop := ∃ p, e = .unwrittenMemory p ∧ s.physByte p = none

/-- A byte without a value had none before, as long as no operation takes a byte its value. -/
theorem NamesUnwritten.before (h : NamesUnwritten t e) (hst : ∀ p, s.physByte p ≠ none → t.physByte p ≠ none) :
    NamesUnwritten s e := by
  obtain ⟨p, rfl, hp⟩ := h
  exact ⟨p, rfl, not_not.1 fun hs => hst p hs hp⟩

theorem NamesUnwritten.of_mem (h : NamesUnwritten t e) (hmem : t.mem = s.mem) : NamesUnwritten s e :=
  h.before fun p hp => by rwa [memKept_of_mem hmem p]

/-- A sequence whose second part always answers stops where the first part does. -/
theorem error_of_bind_answers {ε α β : Type} {x : Except ε α} {f : α → Except ε β} {e : ε}
    (h : (x >>= f) = .error e) (hf : ∀ a, ∃ b, f a = .ok b) : x = .error e := by
  obtain hx | ⟨a, -, ha⟩ := bind_error.1 h
  · exact hx
  · obtain ⟨b, hb⟩ := hf a
    exact absurd (hb.symm.trans ha) nofun

/-! ### Operations -/

theorem physRead_unwritten {p : PhysAddr} (h : physRead p s = .error e) : NamesUnwritten s e := by
  obtain ⟨hp, rfl⟩ := physRead_error.1 h
  exact ⟨p, rfl, hp⟩

theorem memRead_unwritten {a : Word} (h : memRead a s = .error e) : NamesUnwritten s e := physRead_unwritten h

theorem physRead16_unwritten {p : PhysAddr} (h : physRead16 p s = .error e) : NamesUnwritten s e := by
  obtain h | ⟨l, -, h⟩ := bind_error.1 h
  · exact physRead_unwritten h
  · exact physRead_unwritten (error_of_bind_answers h fun _ => ⟨_, rfl⟩)

theorem memRead16_unwritten {a : Word} (h : memRead16 a s = .error e) : NamesUnwritten s e := by
  obtain h | ⟨l, -, h⟩ := bind_error.1 h
  · exact memRead_unwritten h
  · exact memRead_unwritten (error_of_bind_answers h fun _ => ⟨_, rfl⟩)

/-- Under an I/O selection a source access always answers. -/
theorem srcRead_unwritten {a : Word} (h : srcRead c a s = .error e) : NamesUnwritten s e := by
  obtain ⟨-, hbyte, rfl⟩ := srcRead_error.1 h
  exact ⟨_, rfl, hbyte⟩

theorem srcRead16_unwritten {a : Word} (h : srcRead16 c a s = .error e) : NamesUnwritten s e := by
  obtain h | ⟨⟨l, u⟩, hu, h⟩ := bind_error.1 h
  · exact srcRead_unwritten h
  · have hsecond : NamesUnwritten u e := srcRead_unwritten (error_of_bind_answers h fun _ => ⟨_, rfl⟩)
    exact hsecond.of_mem (srcRead_mem hu)

theorem pop8_unwritten (h : pop8 s = .error e) : NamesUnwritten s e :=
  memRead_unwritten (error_of_bind_answers h fun _ => ⟨_, rfl⟩)

theorem pop16_unwritten (h : pop16 s = .error e) : NamesUnwritten s e :=
  memRead16_unwritten (error_of_bind_answers h fun _ => ⟨_, rfl⟩)

theorem byteSrc_unwritten {o : ByteSrc} (h : o.read c s = .error e) : NamesUnwritten s e := by
  cases o with
  | reg r | imm n => cases h
  | mem m => exact srcRead_unwritten h

/-! ### Bodies -/

theorem alu_unwritten {op : AluOp} {o : ByteSrc} (h : alu op o c s = .error e) : NamesUnwritten s e :=
  byteSrc_unwritten (error_of_bind_answers h fun _ => ⟨_, rfl⟩)

theorem testBit_unwritten {b : BitVec 3} {o : ByteSrc} (h : testBit b o c s = .error e) : NamesUnwritten s e :=
  byteSrc_unwritten (error_of_bind_answers h fun _ => ⟨_, rfl⟩)

theorem modifyMem_unwritten {m : MemAt} {g : Byte → Byte} {f : Byte → FlagWrite} (h : modifyMem m g f c s = .error e) :
    NamesUnwritten s e :=
  srcRead_unwritten (error_of_bind_answers h fun _ => ⟨_, rfl⟩)

theorem shiftMem_unwritten {op : ShiftOp} {m : MemAt} (h : shiftMem op m c s = .error e) : NamesUnwritten s e :=
  modifyMem_unwritten h

theorem loadByte_unwritten {r : Reg8} {m : MemAt} (h : loadByte r m c s = .error e) : NamesUnwritten s e :=
  srcRead_unwritten (error_of_bind_answers h fun _ => ⟨_, rfl⟩)

theorem loadWord_unwritten {r : WordReg} {m : MemAt} (h : loadWord r m c s = .error e) : NamesUnwritten s e :=
  srcRead16_unwritten (error_of_bind_answers h fun _ => ⟨_, rfl⟩)

theorem loadFrame_unwritten {r : WordReg} {n : Byte} (h : loadFrame r n c s = .error e) : NamesUnwritten s e :=
  memRead16_unwritten (error_of_bind_answers h fun _ => ⟨_, rfl⟩)

theorem loadPhys_unwritten {r : WordReg} {a : State → Word} (h : loadPhys r a c s = .error e) : NamesUnwritten s e :=
  physRead16_unwritten (error_of_bind_answers h fun _ => ⟨_, rfl⟩)

theorem exchangeTop_unwritten {r : WordReg} (h : exchangeTop r c s = .error e) : NamesUnwritten s e :=
  memRead16_unwritten (error_of_bind_answers h fun _ => ⟨_, rfl⟩)

theorem popWord_unwritten {r : WordReg} (h : popWord r c s = .error e) : NamesUnwritten s e :=
  pop16_unwritten (error_of_bind_answers h fun _ => ⟨_, rfl⟩)

theorem returnBody_unwritten (h : returnBody c s = .error e) : NamesUnwritten s e :=
  pop16_unwritten (error_of_bind_answers h fun _ => ⟨_, rfl⟩)

theorem returnFromInterrupt_unwritten (h : returnFromInterrupt s = .error e) : NamesUnwritten s e := by
  obtain h | ⟨⟨v, u⟩, hu, h⟩ := bind_error.1 h
  · exact pop8_unwritten h
  · have hpc : NamesUnwritten u e := pop16_unwritten (error_of_bind_answers h fun _ => ⟨_, rfl⟩)
    exact hpc.of_mem (pop8_mem hu)

theorem blockOnce_unwritten {d : Word} (h : blockOnce d c s = .error e) : NamesUnwritten s e :=
  memRead_unwritten (error_of_bind_answers h fun _ => ⟨_, rfl⟩)

/-- One byte of a block move takes no byte its value. -/
theorem readable_of_blockOnce {d : Word} (h : blockOnce d c s = .ok t) {p : PhysAddr} (hp : s.physByte p ≠ none) :
    t.physByte p ≠ none := by
  obtain ⟨v, hv, -⟩ := blockOnce_ok.1 h
  obtain rfl := ok_eq.1 ((blockOnce_of_byteAt hv).symm.trans h)
  exact readable_of_storedByte (storedByte_movedByte d c v s) hp

/-- The bytes moved before the fault only gave bytes their values. -/
theorem blockLoop_unwritten {d : Word} : ∀ {n : Nat} {s : State}, blockLoop d n c s = .error e → NamesUnwritten s e
  | 0, _, h => nomatch h
  | n + 1, s, h => by
    obtain h | ⟨u, hu, h⟩ := bind_error.1 h
    · exact blockOnce_unwritten h
    · exact (blockLoop_unwritten h).before fun p => readable_of_blockOnce hu

/-! ### Bodies that one instruction alone has -/

theorem exec_popIp_unwritten (h : exec .popIp s = .fault e) : NamesUnwritten s e := by
  have hbody : execPopIp s = .fault e := h
  rw [execPopIp, perform_fault] at hbody
  exact pop8_unwritten (error_of_bind_answers hbody fun _ => ⟨_, rfl⟩)

theorem exec_lret_unwritten (h : exec .lret s = .fault e) : NamesUnwritten s e := by
  have hbody : execLret s = .fault e := h
  rw [execLret, perform_fault] at hbody
  obtain h | ⟨⟨w, u⟩, hu, h⟩ := bind_error.1 hbody
  · exact pop16_unwritten h
  · have hxpc : NamesUnwritten u e := pop8_unwritten (error_of_bind_answers h fun _ => ⟨_, rfl⟩)
    exact hxpc.of_mem (pop16_mem hu)

theorem exec_reti_unwritten (h : exec .reti s = .fault e) : NamesUnwritten s e := by
  have hbody : execReti s = .fault e := h
  rw [execReti, perform_fault] at hbody
  exact returnFromInterrupt_unwritten hbody

theorem exec_retF_unwritten {f : Cond} (h : exec (.retF f) s = .fault e) : NamesUnwritten s e := by
  cases hf : condHolds s.main.f f with
  | true =>
    rw [exec_retF_true hf] at h
    exact returnBody_unwritten (perform_fault.1 h)
  | false =>
    rw [exec_retF_false hf] at h
    cases h

theorem selectIo_not_fault (x : IoSpace) : selectIo x s ≠ .fault e := by
  unfold selectIo
  split <;> simp

/-! ### Every instruction -/

/-- A fault of an instruction comes from a read of its body; the instructions not named here read no memory, and their
bodies always answer. -/
theorem exec_fault_unwritten (h : exec i s = .fault e) : NamesUnwritten s e := by
  cases i with
  | adcAAtHl | adcAAtIxd | adcAAtIyd | addAAtHl | addAAtIxd | addAAtIyd | andAtHl | andAtIxd | andAtIyd | cpAtHl
  | cpAtIxd | cpAtIyd | orAtHl | orAtIxd | orAtIyd | sbcAAtHl | sbcAAtIxd | sbcAAtIyd | subAtHl | subAtIxd | subAtIyd
  | xorAtHl | xorAtIxd | xorAtIyd => exact alu_unwritten (perform_fault.1 h)
  | bitBAtHl | bitBAtIxd | bitBAtIyd => exact testBit_unwritten (perform_fault.1 h)
  | decAtHl | decAtIxd | decAtIyd | incAtHl | incAtIxd | incAtIyd | resBAtHl | resBAtIxd | resBAtIyd | setBAtHl
  | setBAtIxd | setBAtIyd => exact modifyMem_unwritten (perform_fault.1 h)
  | rlAtHl | rlAtIxd | rlAtIyd | rlcAtHl | rlcAtIxd | rlcAtIyd | rrAtHl | rrAtIxd | rrAtIyd | rrcAtHl | rrcAtIxd
  | rrcAtIyd | slaAtHl | slaAtIxd | slaAtIyd | sraAtHl | sraAtIxd | sraAtIyd | srlAtHl | srlAtIxd | srlAtIyd =>
    exact shiftMem_unwritten (perform_fault.1 h)
  | ldAAtMn | ldRAtHl | ldAAtBc | ldAAtDe | ldRAtIxd | ldRAtIyd => exact loadByte_unwritten (perform_fault.1 h)
  | ldHlAtMn | ldIxAtMn | ldIyAtMn | ldHlAtHld | ldHlAtIxd | ldHlAtIyd =>
    exact loadWord_unwritten (perform_fault.1 h)
  | ldDdAtMn => exact loadWord_unwritten (perform_fault.1 (withAlternate_fault.1 h).2)
  | ldDdMn | incSs | decSs => exact nomatch (withAlternate_fault.1 h).2
  | ldHlAtSpn | ldIxAtSpn | ldIyAtSpn => exact loadFrame_unwritten (perform_fault.1 h)
  | ldpHlAtHl | ldpHlAtIx | ldpHlAtIy | ldpHlAtMn | ldpIxAtMn | ldpIyAtMn =>
    exact loadPhys_unwritten (perform_fault.1 h)
  | exAtSpHl | exAtSpIx | exAtSpIy => exact exchangeTop_unwritten (perform_fault.1 h)
  | popIx | popIy | popZz => exact popWord_unwritten (perform_fault.1 h)
  | popIp => exact exec_popIp_unwritten h
  | ldd | ldi => exact blockOnce_unwritten (perform_fault.1 h)
  | lddr | ldir => exact blockLoop_unwritten (perform_fault.1 h)
  | ret => exact returnBody_unwritten (perform_fault.1 h)
  | retF => exact exec_retF_unwritten h
  | reti => exact exec_reti_unwritten h
  | lret => exact exec_lret_unwritten h
  | ioi | ioe => exact absurd h (selectIo_not_fault _)
  | _ => cases h

/-- An instruction that is no latch setter is refused exactly for ALTD and a destination SP. -/
theorem Runs.refused_iff {b : Body} (hr : Runs i b) {r : Refusal} :
    exec i s = .refused r ↔ destinationSp i = true ∧ s.altd = true ∧ r = .altdSp := by
  rw [hr.exec_eq]
  split
  · next h => simp [h, eq_comm]
  · next h => simpa [perform_not_refused] using fun hd ha => absurd ⟨hd, ha⟩ h

/-- The latch setters are refused by `selectIo` alone (45_prefix_block.md R435). -/
theorem exec_setsLatch_refused_iff (hi : setsLatch i = true) {r : Refusal} :
    exec i s = .refused r ↔ (i = .ioi ∨ i = .ioe) ∧ s.io ≠ none ∧ r = .secondIoPrefix := by
  cases i with
  | altd => exact iff_of_false nofun (by simp)
  | ioi | ioe => exact selectIo_refused.trans (by simp)
  | _ => exact absurd hi Bool.false_ne_true

theorem setsLatch_of_ioPrefix (h : i = .ioi ∨ i = .ioe) : setsLatch i = true := by
  obtain rfl | rfl := h <;> rfl

theorem setsLatch_of_destinationSp (h : destinationSp i = true) : setsLatch i = false := by
  cases i with
  | altd | ioi | ioe => exact absurd h Bool.false_ne_true
  | _ => rfl

/-- Settles O21: each of the two refusals belongs to one side of the split into latch setters and the rest. -/
theorem execStops : Obligations.ExecStops := by
  refine fun i s => ⟨fun e => exec_fault_unwritten, fun r => ?_⟩
  cases hi : setsLatch i with
  | false =>
    obtain ⟨b, hr⟩ := exists_runs i hi
    have hprefix : ¬(i = .ioi ∨ i = .ioe) := fun h => Bool.false_ne_true (hi.symm.trans (setsLatch_of_ioPrefix h))
    simp [hr.refused_iff, hprefix]
  | true =>
    have hsp : ¬destinationSp i = true := fun h =>
      Bool.false_ne_true ((setsLatch_of_destinationSp h).symm.trans hi)
    simp [exec_setsLatch_refused_iff hi, hsp]

end Sys2Proof.Proofs
end

section
/-! PROOFS. The end of a run (70_reset_and_hazards.md R549): a jump to itself with no request to come leaves nothing but
its latches behind, and a step that answers its own state answers it forever. -/

namespace Sys2Proof.Proofs

open Sys2Proof.Machine

variable {i : Instr} {s : State}

/-- Where every run of a jump to itself ends: the hold and remembered-I/O latches are clear, the rest stands. -/
def settled (s : State) : State := { s with hold := false, iobug := none }

/-! ### No request to come -/

theorem interruptNow_of_irq_nil (h : s.irq = []) : interruptNow s = none := by
  simp [interruptNow, h]

theorem afterAsking_of_irq_nil (h : s.irq = []) : afterAsking s = s := by
  rw [afterAsking_eq, h, List.tail_nil, ite_self, ← h]

theorem step_of_irq_nil (h : s.irq = []) : step s = runInstruction s := by
  rw [step_of_no_interrupt (interruptNow_of_irq_nil h), afterAsking_of_irq_nil h]

theorem runInstruction_of_fetched {len : Nat} (h : fetched s = .ok i len) :
    runInstruction s = exec i (advance len s) := by
  unfold runInstruction
  rw [h]

/-! ### A jump to itself -/

/-- A jump whose target is its own address changes only the latches. -/
theorem exec_selfJump {target : State → Word} {len : Nat} (haltd : s.altd = false) (hio : s.io = none)
    (he : exec i (advance len s) = perform {} (fun _ s => .ok { s with pc := target s }) (advance len s))
    (htarget : target (advance len s) = s.pc) : exec i (advance len s) = .next (settled s) := by
  rw [he, perform, htarget]
  simp [complete, settled, advance, haltd, hio]

/-- The stored byte FEh is -2, the length of JR e (46_control_misc.md R451). -/
theorem relTarget_self (s : State) : relTarget 0xFE (advance 2 s) = s.pc := by
  have hback : 2#16 + sext16 0xFE = 0 := by decide
  rw [relTarget, advance, BitVec.add_assoc, hback]
  exact BitVec.add_zero s.pc

theorem step_of_endOfRun (h : EndOfRun s) : step s = .next (settled s) := by
  obtain ⟨haltd, hio, hirq, hjr | hjp⟩ := h
  · rw [step_of_irq_nil hirq, runInstruction_of_fetched hjr]
    exact exec_selfJump haltd hio rfl (relTarget_self s)
  · rw [step_of_irq_nil hirq, runInstruction_of_fetched hjp]
    exact exec_selfJump (target := fun _ => s.pc) haltd hio rfl rfl

/-- Neither the fetch nor the end of the run looks at the two latches that a jump clears. -/
theorem endOfRun_settled (h : EndOfRun s) : EndOfRun (settled s) := h

/-! ### Every step after it -/

/-- A state that a step answers with itself is where every run from it stands, in every machine. -/
theorem run_of_step_self {M : Host.Core} {s : M.State} (h : M.step s = .next s) : ∀ n, M.run n s = .next s
  | 0 => rfl
  | n + 1 => by
    rw [Host.Core.run, h]
    exact run_of_step_self h n

/-- Settles O58: the state after one step is again at the end of its run, and is settled already. -/
theorem endOfRunFixed : Obligations.EndOfRunFixed := fun s h =>
  ⟨settled s, step_of_endOfRun h, rfl, run_of_step_self (M := Sys2Proof.core) (step_of_endOfRun (endOfRun_settled h))⟩

end Sys2Proof.Proofs
end
